-- ==== Sys2Proof/Word.lean ====
section
/-! DEFINITION. The two word types of the block: bytes (bit 7 the most significant, R10, R60) and 4-bit memory
addresses (R27). Index operands are integers and not words (R7, D3), so they have no type here. -/

namespace Sys2Proof

/-- A byte of a frame, bits 7 down to 0 (R10). -/
abbrev Byte := BitVec 8

/-- A 4-bit device memory address, 0x0 to 0xF (R27). -/
abbrev Nibble := BitVec 4

end Sys2Proof
end

