-- ==== Sys2Proof/Syntax.lean ====
section
/-! DEFINITION. The syntax of a call: the value types of spec/10_state.md, the instruction type with one constructor for
every row of spec/opcode_table.json, the emitted bits an instruction is named by, and the reasons a decoder gives for
refusing bits. -/

namespace Sys2Proof

/-- Transfer direction, the value of the R/W bit (R26). -/
inductive Direction where
  | write
  | read
  deriving DecidableEq, Repr

/-- The six operations of `buildFrame`, a closed set (R24). -/
inductive Operation where
  | increment
  | decrement
  | writeWiper
  | writeRegister
  | readWiper
  | readRegister
  deriving DecidableEq, Repr

/-- Which resolver table an index goes through (R122); also which of the two variants of a Write or Read command
(WriteWiper or WriteRegister, ReadWiper or ReadRegister) is meant. -/
inductive IndexClass where
  | wiper
  | control
  deriving DecidableEq, Repr

/-- The target registers the block can name, with the memory address each stands at in R31 and R43: four wipers, and two
TCON registers, each shared by a pair of ControlRegister indices. -/
inductive TargetRegister where
  | wiper0
  | wiper1
  | wiper2
  | wiper3
  | tcon01
  | tcon23
  deriving DecidableEq, Repr

/-- An instruction is a call of the block (R8); one constructor per row of spec/opcode_table.json, in the table's order.
Index operands (channel, register, selector) are integers, valid or not (R7, R25). The optional data byte of the frame
rows is `buildFrame`'s `data?` (R121): present or absent, so that every call the rules R124 to R129 describe, with or
without its data, is a term. -/
inductive Instr where
  /-- RESOLVE_WIPER: `resolveWiperAddress(channel)` (R92). -/
  | resolveWiper (channel : Int)
  /-- RESOLVE_CONTROL: `resolveControlAddress(register)` (R93). -/
  | resolveControl (register : Int)
  /-- ADDR_BYTE: `encodeAddressByte(selector, direction)` (R101). -/
  | addrByte (selector : Int) (direction : Direction)
  /-- CMD_WR: `encodeCommand(WriteWiper, a)` or `encodeCommand(WriteRegister, a)` (R115). -/
  | cmdWr (variant : IndexClass) (memoryAddress : Nibble)
  /-- CMD_INC: `encodeCommand(Increment, a)` (R113). -/
  | cmdInc (memoryAddress : Nibble)
  /-- CMD_DEC: `encodeCommand(Decrement, a)` (R114). -/
  | cmdDec (memoryAddress : Nibble)
  /-- CMD_RD: `encodeCommand(ReadWiper, a)` or `encodeCommand(ReadRegister, a)` (R116). -/
  | cmdRd (variant : IndexClass) (memoryAddress : Nibble)
  /-- RDREQ: the one-byte frame `[encodeAddressByte(selector, Read)]` (R103). -/
  | rdreq (selector : Int)
  /-- INC: `buildFrame(selector, Increment, channel)` (R124). -/
  | inc (selector channel : Int) (data : Option Byte)
  /-- DEC: `buildFrame(selector, Decrement, channel)` (R125). -/
  | dec (selector channel : Int) (data : Option Byte)
  /-- WRW: `buildFrame(selector, WriteWiper, channel, data)` (R126). -/
  | wrw (selector channel : Int) (data : Option Byte)
  /-- WRR: `buildFrame(selector, WriteRegister, register, data)` (R127). -/
  | wrr (selector register : Int) (data : Option Byte)
  /-- RDW: `buildFrame(selector, ReadWiper, channel)` (R128). -/
  | rdw (selector channel : Int) (data : Option Byte)
  /-- RDR: `buildFrame(selector, ReadRegister, register)` (R129). -/
  | rdr (selector register : Int) (data : Option Byte)
  /-- INC.W0: `buildFrame(selector, Increment, 0)` (R124). -/
  | incW0 (selector : Int) (data : Option Byte)
  /-- INC.W1: `buildFrame(selector, Increment, 1)` (R124). -/
  | incW1 (selector : Int) (data : Option Byte)
  /-- INC.W2: `buildFrame(selector, Increment, 2)` (R124). -/
  | incW2 (selector : Int) (data : Option Byte)
  /-- INC.W3: `buildFrame(selector, Increment, 3)` (R124). -/
  | incW3 (selector : Int) (data : Option Byte)
  /-- DEC.W0: `buildFrame(selector, Decrement, 0)` (R125). -/
  | decW0 (selector : Int) (data : Option Byte)
  /-- DEC.W1: `buildFrame(selector, Decrement, 1)` (R125). -/
  | decW1 (selector : Int) (data : Option Byte)
  /-- DEC.W2: `buildFrame(selector, Decrement, 2)` (R125). -/
  | decW2 (selector : Int) (data : Option Byte)
  /-- DEC.W3: `buildFrame(selector, Decrement, 3)` (R125). -/
  | decW3 (selector : Int) (data : Option Byte)
  /-- WRW.W0: `buildFrame(selector, WriteWiper, 0, data)` (R126). -/
  | wrwW0 (selector : Int) (data : Option Byte)
  /-- WRW.W1: `buildFrame(selector, WriteWiper, 1, data)` (R126). -/
  | wrwW1 (selector : Int) (data : Option Byte)
  /-- WRW.W2: `buildFrame(selector, WriteWiper, 2, data)` (R126). -/
  | wrwW2 (selector : Int) (data : Option Byte)
  /-- WRW.W3: `buildFrame(selector, WriteWiper, 3, data)` (R126). -/
  | wrwW3 (selector : Int) (data : Option Byte)
  /-- RDW.W0: `buildFrame(selector, ReadWiper, 0)` (R128). -/
  | rdwW0 (selector : Int) (data : Option Byte)
  /-- RDW.W1: `buildFrame(selector, ReadWiper, 1)` (R128). -/
  | rdwW1 (selector : Int) (data : Option Byte)
  /-- RDW.W2: `buildFrame(selector, ReadWiper, 2)` (R128). -/
  | rdwW2 (selector : Int) (data : Option Byte)
  /-- RDW.W3: `buildFrame(selector, ReadWiper, 3)` (R128). -/
  | rdwW3 (selector : Int) (data : Option Byte)
  /-- WRR.T01: `buildFrame(selector, WriteRegister, 0 or 1, data)` (R127). -/
  | wrrT01 (selector : Int) (data : Option Byte)
  /-- WRR.T23: `buildFrame(selector, WriteRegister, 2 or 3, data)` (R127). -/
  | wrrT23 (selector : Int) (data : Option Byte)
  /-- RDR.T01: `buildFrame(selector, ReadRegister, 0 or 1)` (R129). -/
  | rdrT01 (selector : Int) (data : Option Byte)
  /-- RDR.T23: `buildFrame(selector, ReadRegister, 2 or 3)` (R129). -/
  | rdrT23 (selector : Int) (data : Option Byte)
  deriving DecidableEq, Repr

/-- The bits an instruction emits (R72): a resolver gives a 4-bit address and no byte, everything else gives bytes, the
byte sent first at the head of the list (R44). -/
inductive Emission where
  | nibble (address : Nibble)
  | bytes (bs : List Byte)
  deriving DecidableEq, Repr

/-- Why no instruction of the block emits the given bits (R73, R145). -/
inductive DecodeReject where
  /-- There is no byte: an empty frame does not exist (R64). -/
  | empty
  /-- The first byte of a frame does not have 01011 in bits 7 to 3 (R73 a, R143). -/
  | notAnAddressByte
  /-- A single byte that is neither an address byte nor a command byte (R73 a, b). -/
  | notAByteOfTheBlock
  /-- A byte follows an address byte with R/W = 1, which is a whole frame (R64, R145). -/
  | byteAfterReadRequest
  /-- Bit 1 or bit 0 of the command byte is set (R73 b, R144). -/
  | commandLowBitsSet
  /-- The opcode is Write and there is no data byte (R64, R145). -/
  | missingData
  /-- A byte follows the last byte of the frame format (R64, R145). -/
  | trailingByte
  /-- The memory address is none of the six that `buildFrame` reaches (R73 c). -/
  | addressNotReached
  /-- Increment or Decrement at a TCON address, which `buildFrame` never produces (R73 d). -/
  | tconNotCounted
  /-- A 4-bit address that no resolver answers (R90, R91). -/
  | nibbleNotResolved
  deriving DecidableEq, Repr

end Sys2Proof
end

