-- ==== Sys2Proof/Machine/Operands.lean ====
section
/-! DEFINITION. Operand forms: the range check of an index and its 2-bit value, the two constant tables of
`address_resolver`, the port codes of operation and direction, and the constant functions of an operation (opcode, index
class, data requirement, frame length). -/

namespace Sys2Proof

/-- The test of every index operand, made on the whole value before any narrowing (R92, R93, R101, R161). -/
def indexOutOfRange (v : Int) : Bool := decide (v < 0) || decide (v > 3)

/-- An index that has passed its range check, as the 2-bit number it is used as (R65). -/
def indexBits (v : Int) : BitVec 2 := BitVec.ofInt 2 v

/-- WIPER_ADDR: wiper channels 0, 1, 2, 3 (R90). -/
def wiperTable : Vector Nibble 4 := #v[0x0, 0x1, 0x6, 0x7]

/-- CTRL_ADDR: control registers 0, 1, 2, 3, aliasing in pairs (R91). -/
def controlTable : Vector Nibble 4 := #v[0x4, 0x4, 0xA, 0xA]

/-- `WIPER_ADDR[channel]`, the channel already checked (R90). -/
def wiperAddress (channel : BitVec 2) : Nibble := wiperTable[channel.toNat]

/-- `CTRL_ADDR[register]`, the register already checked (R91). -/
def controlAddress (register : BitVec 2) : Nibble := controlTable[register.toNat]

/-- What the spec fixes of the target's memory map (R31, R43); `none` where it says nothing. -/
def targetAt (address : Nibble) : Option TargetRegister :=
  if address = 0x0 then some .wiper0
  else if address = 0x1 then some .wiper1
  else if address = 0x6 then some .wiper2
  else if address = 0x7 then some .wiper3
  else if address = 0x4 then some .tcon01
  else if address = 0xA then some .tcon23
  else none

/-- The address a target register stands at (R31, R43). -/
def TargetRegister.address : TargetRegister → Nibble
  | .wiper0 => 0x0
  | .wiper1 => 0x1
  | .wiper2 => 0x6
  | .wiper3 => 0x7
  | .tcon01 => 0x4
  | .tcon23 => 0xA

/-- The class of the index that reaches a target register (R31). -/
def TargetRegister.indexClass : TargetRegister → IndexClass
  | .wiper0 => .wiper
  | .wiper1 => .wiper
  | .wiper2 => .wiper
  | .wiper3 => .wiper
  | .tcon01 => .control
  | .tcon23 => .control

/-- The R/W bit of a direction: 0 = Write, 1 = Read; also its port code (R26, R75). -/
def Direction.bit : Direction → BitVec 1
  | .write => 0
  | .read => 1

/-- The direction a port code or an R/W bit stands for; both values are legal (R75). -/
def Direction.ofBit (b : BitVec 1) : Direction := if b = 1 then .read else .write

/-- The 3-bit port code of an operation (R74). It never appears on the wire. -/
def Operation.code : Operation → BitVec 3
  | .increment => 0
  | .decrement => 1
  | .writeWiper => 2
  | .writeRegister => 3
  | .readWiper => 4
  | .readRegister => 5

/-- The operation a port code names; `none` for the reserved codes 6 and 7 (R74, R76). -/
def operationOfCode (code : BitVec 3) : Option Operation :=
  if code = 0 then some .increment
  else if code = 1 then some .decrement
  else if code = 2 then some .writeWiper
  else if code = 3 then some .writeRegister
  else if code = 4 then some .readWiper
  else if code = 5 then some .readRegister
  else none

/-- `opcodeOf`: the 2-bit opcode of an operation (R67, R68, R111). -/
def Operation.opcode : Operation → BitVec 2
  | .increment => 0b01
  | .decrement => 0b10
  | .writeWiper => 0b00
  | .writeRegister => 0b00
  | .readWiper => 0b11
  | .readRegister => 0b11

/-- `indexClass`: which resolver the index goes through (R122). -/
def Operation.indexClass : Operation → IndexClass
  | .increment => .wiper
  | .decrement => .wiper
  | .writeWiper => .wiper
  | .writeRegister => .control
  | .readWiper => .wiper
  | .readRegister => .control

/-- `needsData`: a data byte is required for the write operations and forbidden for the others (R131). -/
def Operation.needsData : Operation → Bool
  | .increment => false
  | .decrement => false
  | .writeWiper => true
  | .writeRegister => true
  | .readWiper => false
  | .readRegister => false

/-- The number of bytes of an operation's frame (R77, R132). -/
def Operation.frameLength (op : Operation) : Nat := if op.needsData then 3 else 2

/-- The operation of a Write command of the given variant (R115). -/
def IndexClass.writeOperation : IndexClass → Operation
  | .wiper => .writeWiper
  | .control => .writeRegister

/-- The operation of a Read command of the given variant (R116). -/
def IndexClass.readOperation : IndexClass → Operation
  | .wiper => .readWiper
  | .control => .readRegister

end Sys2Proof
end

