-- ==== Sys2Proof/Machine/State.lean ====
section
/-! DEFINITION. The results of a call (frame, error set, observation), the values held on the block's input ports, the
requests a caller makes, and State. THE SPEC GIVES THE BLOCK NO STATE (R20 to R23, R29 to R33: the state type of the block
is the unit type), so every field of State is the model's own picture of the block's surroundings: the pins as the caller
holds them, the calls still to be made, and what has been observed (notes/assumptions/1.md). Also Fault and Refusal, and
State.reset. -/

namespace Sys2Proof.Machine

/-- One of the block's two errors (R160). -/
inductive EncError where
  | outOfRange
  | invalidOperation
  deriving DecidableEq, Repr

/-- The set of errors of one call, as its two error wires (R163, R166). A failed call's set is not empty (R149). -/
structure ErrorSet where
  outOfRange : Bool
  invalidOperation : Bool
  deriving DecidableEq, Repr

/-- A frame, tagged by its kind (R28): the kind fixes the byte count, and there is no frame of any other shape (R64). -/
inductive Frame where
  /-- F1 (AddressOnly): the read-request byte. -/
  | addressOnly (byte0 : Byte)
  /-- F2 (Command): address byte and command byte. -/
  | command (byte0 byte1 : Byte)
  /-- F3 (CommandData): address byte, command byte and data byte. -/
  | commandData (byte0 byte1 byte2 : Byte)
  deriving DecidableEq, Repr

/-- The bytes of a frame, the first sent at the head (R44). -/
def Frame.bytes : Frame → List Byte
  | .addressOnly b0 => [b0]
  | .command b0 b1 => [b0, b1]
  | .commandData b0 b1 b2 => [b0, b1, b2]

/-- What is observed of one call: its outcome and nothing else (R153). -/
inductive Observation where
  /-- A resolver's 4-bit address (R92, R93). -/
  | address (a : Nibble)
  /-- A byte of `encodeAddressByte` or `encodeCommand` (R101, R112). -/
  | byte (b : Byte)
  /-- A frame of `buildFrame`, or the read-request frame (R121, R103). -/
  | frame (f : Frame)
  /-- The errors of a call that failed and emitted no byte (R167). -/
  | errors (e : ErrorSet)
  deriving DecidableEq, Repr

/-- The inputs of port group `rw_` (R94, R140). -/
structure WiperPins where
  channel : Int
  deriving DecidableEq, Repr

/-- The inputs of port group `rc_` (R94, R140). -/
structure ControlPins where
  register : Int
  deriving DecidableEq, Repr

/-- The inputs of port group `ab_` (R100, R140); the direction is its port code (R75). -/
structure AddressPins where
  selector : Int
  direction : BitVec 1
  deriving DecidableEq, Repr

/-- The inputs of port group `ec_` (R110, R140); the operation is its port code (R74). -/
structure CommandPins where
  operation : BitVec 3
  memAddr : Nibble
  deriving DecidableEq, Repr

/-- The inputs of port group `bf_` (R120, R140); the operation is its port code (R74). `data_present` and `data` are held
as one optional byte, since the data lines are not looked at when `data_present` is 0 (R131, D23). -/
structure FramePins where
  selector : Int
  operation : BitVec 3
  index : Int
  data : Option Byte
  deriving DecidableEq, Repr

/-- The five input port groups of the top level (R140); `none` where a group is not driven (R181). -/
structure PortPins where
  rw : Option WiperPins
  rc : Option ControlPins
  ab : Option AddressPins
  ec : Option CommandPins
  bf : Option FramePins
  deriving DecidableEq, Repr

/-- A call as its caller presents it: in the call syntax (R78), as the values of one port group (R140), or named by the
bits it emits (R72). -/
inductive Request where
  | call (i : Instr)
  | rw (p : WiperPins)
  | rc (p : ControlPins)
  | ab (p : AddressPins)
  | ec (p : CommandPins)
  | bf (p : FramePins)
  | emitted (e : Emission)
  deriving DecidableEq, Repr

/-- What a request turns out to be: an instruction, a port-level call with a reserved operation code, which names no
instruction (R76), or bits that no instruction emits (R73). -/
inductive Fetched where
  | instr (i : Instr)
  | reservedCommand (p : CommandPins)
  | reservedFrame (p : FramePins)
  | rejected (r : DecodeReject)
  deriving DecidableEq, Repr

/-- Why the machine may stop with a fault. There is no reason: the block has no trap, fault or abort, nothing hangs, and
every call has an outcome (R9.5, R149, R160). The two errors are results of a call and not faults. -/
inductive Fault where
  deriving DecidableEq, Repr

/-- Why an instruction or a request has no meaning in the model. -/
inductive Refusal where
  /-- Raised by `exec` for an instruction of the table that has no meaning yet. Safe: the model stops. -/
  | notModelled (mnemonic : String)
  /-- Raised by `step` for a request named by bits that no instruction of the block emits; the reason says which rule the
  bits break (R73). Safe: the model stops. -/
  | undecodable (reason : DecodeReject)
  deriving DecidableEq, Repr

/-- The surroundings of the stateless block: the pins, the calls to come, the observation so far. -/
structure State where
  /-- The values held on the input ports (R140, R187). -/
  ports : PortPins
  /-- The calls the caller has yet to make, oldest first (R8, R153). -/
  pending : List Request
  /-- The outcomes of the calls made, oldest first (R153). -/
  observed : List Observation
  deriving DecidableEq, Repr

/-- No input is driven (R181). -/
def PortPins.undriven : PortPins := { rw := none, rc := none, ab := none, ec := none, bf := none }

/-- The start: nothing driven, no call to come, nothing observed. The block itself has no state to reset (R33, R180); the
values of the three fields are the model's (DESIGN CHOICE, notes/assumptions/2.md). -/
def State.reset : State := { ports := .undriven, pending := [], observed := [] }

end Sys2Proof.Machine
end

