-- ==== Sys2Proof/Machine/Flags.lean ====
section
/-! DEFINITION. The block has no flags that persist (R29); what it computes in their place are the error indications of a
call: sets of the two errors, their code, and the order in which a single error is chosen. -/

namespace Sys2Proof.Machine

/-- No error. -/
def ErrorSet.empty : ErrorSet := { outOfRange := false, invalidOperation := false }

/-- The set that holds one error. -/
def ErrorSet.single : EncError → ErrorSet
  | .outOfRange => { outOfRange := true, invalidOperation := false }
  | .invalidOperation => { outOfRange := false, invalidOperation := true }

/-- Both sets together: each error is reported regardless of the other (R166). -/
def ErrorSet.union (a b : ErrorSet) : ErrorSet :=
  { outOfRange := a.outOfRange || b.outOfRange, invalidOperation := a.invalidOperation || b.invalidOperation }

/-- No error is in the set. -/
def ErrorSet.isEmpty (e : ErrorSet) : Bool := !e.outOfRange && !e.invalidOperation

/-- The set that holds the error exactly when the condition holds. -/
def ErrorSet.when (condition : Bool) (e : EncError) : ErrorSet := if condition then .single e else .empty

/-- `err[1:0]`: bit 0 is OutOfRange, bit 1 is InvalidOperation (R163). -/
def ErrorSet.code (e : ErrorSet) : BitVec 2 := BitVec.ofBool e.invalidOperation ++ BitVec.ofBool e.outOfRange

/-- The cause named where a single error must be chosen (R166). -/
inductive ErrorCause where
  | selectorOutOfRange
  | indexOutOfRange
  | invalidOperation
  deriving DecidableEq, Repr

/-- The error a cause raises (R161, R162). -/
def ErrorCause.error : ErrorCause → EncError
  | .selectorOutOfRange => .outOfRange
  | .indexOutOfRange => .outOfRange
  | .invalidOperation => .invalidOperation

/-- The range errors of an index operand (R161). -/
def rangeErrors (v : Int) : ErrorSet := .when (indexOutOfRange v) .outOfRange

/-- The error of a data byte that is present where the operation forbids it or absent where it requires it (R131). -/
def dataErrors (op : Operation) (data : Option Byte) : ErrorSet := .when (op.needsData != data.isSome) .invalidOperation

/-- Every error of a `buildFrame` call (R121, R123, R133): with a reserved operation code neither the index nor the data
presence is checked, the selector still is. -/
def frameErrors (selector : Int) (operation : Option Operation) (index : Int) (data : Option Byte) : ErrorSet :=
  (rangeErrors selector).union
    (match operation with
    | none => .single .invalidOperation
    | some op => (rangeErrors index).union (dataErrors op data))

/-- The single-error projection of a `buildFrame` call: selector, then index, then InvalidOperation (R166, D8); `none`
where the call succeeds. -/
def frameErrorCause (selector : Int) (operation : Option Operation) (index : Int) (data : Option Byte) :
    Option ErrorCause :=
  if indexOutOfRange selector then some .selectorOutOfRange
  else
    match operation with
    | none => some .invalidOperation
    | some op =>
      if indexOutOfRange index then some .indexOutOfRange
      else if op.needsData != data.isSome then some .invalidOperation
      else none

end Sys2Proof.Machine
end

