-- ==== Sys2Proof/Machine/Ops.lean ====
section
/-! DEFINITION. The shared operations: the five functions of the block as the pseudocode of the spec gives them (R92, R93,
R101, R112, R121), reporting a result or raising errors (R167, the block's "exception entry"), and one operation per port
group that makes a call of it: drive the group's inputs, take the outcome (R184, R187). The block has no memory and no
registers, so there are no memory or register operations (R21, R23). -/

namespace Sys2Proof.Machine

/-! ### The five functions -/

/-- `resolveWiperAddress(channel)` (R92). -/
def resolveWiperAddress (channel : Int) : Except ErrorSet Nibble :=
  if indexOutOfRange channel then .error (.single .outOfRange) else .ok (wiperAddress (indexBits channel))

/-- `resolveControlAddress(register)` (R93). -/
def resolveControlAddress (register : Int) : Except ErrorSet Nibble :=
  if indexOutOfRange register then .error (.single .outOfRange) else .ok (controlAddress (indexBits register))

/-- `0x58 | (selector << 1) | rw`, the selector already checked (R65, R101). -/
def addressByte (selector : BitVec 2) (direction : Direction) : Byte :=
  0x58#8 ||| (selector.setWidth 8 <<< 1) ||| direction.bit.setWidth 8

/-- `encodeAddressByte(selector, direction)` (R101). -/
def encodeAddressByte (selector : Int) (direction : Direction) : Except ErrorSet Byte :=
  if indexOutOfRange selector then .error (.single .outOfRange) else .ok (addressByte (indexBits selector) direction)

/-- `(memoryAddress << 4) | (opcode << 2)` (R66, R112, R117 a). -/
def commandByte (memoryAddress : Nibble) (opcode : BitVec 2) : Byte :=
  (memoryAddress.setWidth 8 <<< 4) ||| (opcode.setWidth 8 <<< 2)

/-- `encodeCommand(operation, memoryAddress)`, `none` being a reserved port code (R112). -/
def encodeCommand (operation : Option Operation) (memoryAddress : Nibble) : Except ErrorSet Byte :=
  match operation with
  | none => .error (.single .invalidOperation)
  | some op => .ok (commandByte memoryAddress op.opcode)

/-- The resolver of an operation's index class (R122). -/
def resolveIndex (op : Operation) (index : Int) : Except ErrorSet Nibble :=
  match op.indexClass with
  | .wiper => resolveWiperAddress index
  | .control => resolveControlAddress index

/-- The DataPhase: the data byte unmodified for the writes, omitted for the others (R121, R131). A write without data is
an error that validation has found before any byte exists. -/
def dataPhase (op : Operation) (byte0 byte1 : Byte) (data : Option Byte) : Except ErrorSet Frame :=
  if op.needsData then
    match data with
    | some d => .ok (.commandData byte0 byte1 d)
    | none => .error (.single .invalidOperation)
  else .ok (.command byte0 byte1)

/-- AddressPhase, CommandPhase and DataPhase of a call whose inputs are valid: the four blocks below `frame_builder`
composed, direction always Write (R121, R130, R148). An error of a block below is passed on unchanged (R168). -/
def composeFrame (selector : Int) (op : Operation) (index : Int) (data : Option Byte) : Except ErrorSet Frame := do
  let byte0 ← encodeAddressByte selector .write
  let address ← resolveIndex op index
  let byte1 ← encodeCommand (some op) address
  dataPhase op byte0 byte1 data

/-- `buildFrame(selector, operation, index, data?)`, `none` being a reserved port code: validation first and complete,
then the phases (R121, R123, R133). -/
def buildFrame (selector : Int) (operation : Option Operation) (index : Int) (data : Option Byte) :
    Except ErrorSet Frame :=
  let errs := frameErrors selector operation index data
  if errs.isEmpty then
    match operation with
    | none => .error errs
    | some op => composeFrame selector op index data
  else .error errs

/-- `RDREQ s = [encodeAddressByte(s, Read)]`, a frame of kind AddressOnly (R103). -/
def readRequest (selector : Int) : Except ErrorSet Frame := (encodeAddressByte selector .read).map .addressOnly

/-! ### Observing a call -/

/-- The outcome of the call just made joins the observation (R153). -/
def State.observe (s : State) (o : Observation) : State := { s with observed := s.observed ++ [o] }

/-- A call succeeds: its result is observed. -/
def complete (o : Observation) (s : State) : Host.Outcome State Fault Refusal := .next (s.observe o)

/-- A call raises errors: the whole of "exception entry" in this block. No byte is produced, the errors are observed, no
state is saved, no mode changes, control goes nowhere, and the next call is independent of this one (R167, R169). There
is no return from an error and so no operation for it (R169). -/
def raise (e : ErrorSet) (s : State) : Host.Outcome State Fault Refusal := .next (s.observe (.errors e))

/-- What is observed of a call that ends so: its result or its errors, exactly one of them (R149, R153). -/
def outcomeOf : Except ErrorSet Observation → Observation
  | .ok o => o
  | .error e => .errors e

/-- A call ends with its result or its errors, exactly one of them (R149). -/
def finish (r : Except ErrorSet Observation) (s : State) : Host.Outcome State Fault Refusal :=
  match r with
  | .ok o => complete o s
  | .error e => raise e s

/-! ### Driving a port group

The caller drives all inputs of the group in use; the other groups keep the values they have (R142, R184). The values stay
on the pins until the group's next call (R187; notes/assumptions/11.md). -/

/-- Drive `rw_channel`. -/
def State.driveRw (s : State) (p : WiperPins) : State := { s with ports := { s.ports with rw := some p } }

/-- Drive `rc_register`. -/
def State.driveRc (s : State) (p : ControlPins) : State := { s with ports := { s.ports with rc := some p } }

/-- Drive `ab_selector` and `ab_direction`. -/
def State.driveAb (s : State) (p : AddressPins) : State := { s with ports := { s.ports with ab := some p } }

/-- Drive `ec_operation` and `ec_mem_addr`. -/
def State.driveEc (s : State) (p : CommandPins) : State := { s with ports := { s.ports with ec := some p } }

/-- Drive `bf_selector`, `bf_operation`, `bf_index`, `bf_data_present` and `bf_data`. -/
def State.driveBf (s : State) (p : FramePins) : State := { s with ports := { s.ports with bf := some p } }

/-! ### Making a call of a port group -/

/-- A call of `resolveWiperAddress` through its ports (R92, R94). -/
def callResolveWiper (p : WiperPins) (s : State) : Host.Outcome State Fault Refusal :=
  finish ((resolveWiperAddress p.channel).map .address) (s.driveRw p)

/-- A call of `resolveControlAddress` through its ports (R93, R94). -/
def callResolveControl (p : ControlPins) (s : State) : Host.Outcome State Fault Refusal :=
  finish ((resolveControlAddress p.register).map .address) (s.driveRc p)

/-- A call of `encodeAddressByte` through its ports (R100, R101). -/
def callEncodeAddressByte (p : AddressPins) (s : State) : Host.Outcome State Fault Refusal :=
  finish ((encodeAddressByte p.selector (.ofBit p.direction)).map .byte) (s.driveAb p)

/-- The read-request frame: the same port group with direction Read, its byte taken as a frame (R103). -/
def callReadRequest (selector : Int) (s : State) : Host.Outcome State Fault Refusal :=
  finish ((readRequest selector).map .frame) (s.driveAb ⟨selector, Direction.bit .read⟩)

/-- A call of `encodeCommand` through its ports; a reserved code raises InvalidOperation (R110, R112). -/
def callEncodeCommand (p : CommandPins) (s : State) : Host.Outcome State Fault Refusal :=
  finish ((encodeCommand (operationOfCode p.operation) p.memAddr).map .byte) (s.driveEc p)

/-- A call of `buildFrame` through its ports; a reserved code raises InvalidOperation (R120, R121, R133). -/
def callBuildFrame (p : FramePins) (s : State) : Host.Outcome State Fault Refusal :=
  finish ((buildFrame p.selector (operationOfCode p.operation) p.index p.data).map .frame) (s.driveBf p)

end Sys2Proof.Machine
end

