-- ==== Sys2Proof/Machine/AddressByte.lean ====
section
/-! DEFINITION. The meanings of ADDR_BYTE and RDREQ (spec/41_device_address_encoder.md). -/

namespace Sys2Proof.Machine

/-- ADDR_BYTE (R101). -/
def execAddrByte (selector : Int) (direction : Direction) (s : State) : Host.Outcome State Fault Refusal :=
  callEncodeAddressByte ⟨selector, direction.bit⟩ s

/-- RDREQ (R103). -/
def execRdreq (selector : Int) (s : State) : Host.Outcome State Fault Refusal :=
  callReadRequest selector s

end Sys2Proof.Machine
end

