-- ==== Sys2Proof/Machine/CommandByte.lean ====
section
/-! DEFINITION. The meanings of CMD_WR, CMD_INC, CMD_DEC and CMD_RD (spec/42_command_byte_assembler.md). -/

namespace Sys2Proof.Machine

/-- CMD_WR, in either variant (R115). -/
def execCmdWr (variant : IndexClass) (memoryAddress : Nibble) (s : State) : Host.Outcome State Fault Refusal :=
  callEncodeCommand ⟨variant.writeOperation.code, memoryAddress⟩ s

/-- CMD_INC (R113). -/
def execCmdInc (memoryAddress : Nibble) (s : State) : Host.Outcome State Fault Refusal :=
  callEncodeCommand ⟨Operation.increment.code, memoryAddress⟩ s

/-- CMD_DEC (R114). -/
def execCmdDec (memoryAddress : Nibble) (s : State) : Host.Outcome State Fault Refusal :=
  callEncodeCommand ⟨Operation.decrement.code, memoryAddress⟩ s

/-- CMD_RD, in either variant (R116). -/
def execCmdRd (variant : IndexClass) (memoryAddress : Nibble) (s : State) : Host.Outcome State Fault Refusal :=
  callEncodeCommand ⟨variant.readOperation.code, memoryAddress⟩ s

end Sys2Proof.Machine
end

