-- ==== Sys2Proof/Machine/ConcreteFrame.lean ====
section
/-! DEFINITION. The meanings of the twenty concrete frame rows (spec/opcode_table.json, level "frame_concrete"): each is a frame row at
one memory address. The rows of a TCON address stand for two ControlRegister indices; the lower one is driven on the pins
(DESIGN CHOICE, notes/assumptions/18.md), and the frame is the same for both (R49). -/

namespace Sys2Proof.Machine

/-- INC.W0 (R124). -/
def execIncW0 (selector : Int) (data : Option Byte) (s : State) : Host.Outcome State Fault Refusal :=
  callBuildFrame ⟨selector, Operation.increment.code, 0, data⟩ s

/-- INC.W1 (R124). -/
def execIncW1 (selector : Int) (data : Option Byte) (s : State) : Host.Outcome State Fault Refusal :=
  callBuildFrame ⟨selector, Operation.increment.code, 1, data⟩ s

/-- INC.W2 (R124). -/
def execIncW2 (selector : Int) (data : Option Byte) (s : State) : Host.Outcome State Fault Refusal :=
  callBuildFrame ⟨selector, Operation.increment.code, 2, data⟩ s

/-- INC.W3 (R124). -/
def execIncW3 (selector : Int) (data : Option Byte) (s : State) : Host.Outcome State Fault Refusal :=
  callBuildFrame ⟨selector, Operation.increment.code, 3, data⟩ s

/-- DEC.W0 (R125). -/
def execDecW0 (selector : Int) (data : Option Byte) (s : State) : Host.Outcome State Fault Refusal :=
  callBuildFrame ⟨selector, Operation.decrement.code, 0, data⟩ s

/-- DEC.W1 (R125). -/
def execDecW1 (selector : Int) (data : Option Byte) (s : State) : Host.Outcome State Fault Refusal :=
  callBuildFrame ⟨selector, Operation.decrement.code, 1, data⟩ s

/-- DEC.W2 (R125). -/
def execDecW2 (selector : Int) (data : Option Byte) (s : State) : Host.Outcome State Fault Refusal :=
  callBuildFrame ⟨selector, Operation.decrement.code, 2, data⟩ s

/-- DEC.W3 (R125). -/
def execDecW3 (selector : Int) (data : Option Byte) (s : State) : Host.Outcome State Fault Refusal :=
  callBuildFrame ⟨selector, Operation.decrement.code, 3, data⟩ s

/-- WRW.W0 (R126). -/
def execWrwW0 (selector : Int) (data : Option Byte) (s : State) : Host.Outcome State Fault Refusal :=
  callBuildFrame ⟨selector, Operation.writeWiper.code, 0, data⟩ s

/-- WRW.W1 (R126). -/
def execWrwW1 (selector : Int) (data : Option Byte) (s : State) : Host.Outcome State Fault Refusal :=
  callBuildFrame ⟨selector, Operation.writeWiper.code, 1, data⟩ s

/-- WRW.W2 (R126). -/
def execWrwW2 (selector : Int) (data : Option Byte) (s : State) : Host.Outcome State Fault Refusal :=
  callBuildFrame ⟨selector, Operation.writeWiper.code, 2, data⟩ s

/-- WRW.W3 (R126). -/
def execWrwW3 (selector : Int) (data : Option Byte) (s : State) : Host.Outcome State Fault Refusal :=
  callBuildFrame ⟨selector, Operation.writeWiper.code, 3, data⟩ s

/-- WRR.T01 (R127). -/
def execWrrT01 (selector : Int) (data : Option Byte) (s : State) : Host.Outcome State Fault Refusal :=
  callBuildFrame ⟨selector, Operation.writeRegister.code, 0, data⟩ s

/-- WRR.T23 (R127). -/
def execWrrT23 (selector : Int) (data : Option Byte) (s : State) : Host.Outcome State Fault Refusal :=
  callBuildFrame ⟨selector, Operation.writeRegister.code, 2, data⟩ s

/-- RDW.W0 (R128). -/
def execRdwW0 (selector : Int) (data : Option Byte) (s : State) : Host.Outcome State Fault Refusal :=
  callBuildFrame ⟨selector, Operation.readWiper.code, 0, data⟩ s

/-- RDW.W1 (R128). -/
def execRdwW1 (selector : Int) (data : Option Byte) (s : State) : Host.Outcome State Fault Refusal :=
  callBuildFrame ⟨selector, Operation.readWiper.code, 1, data⟩ s

/-- RDW.W2 (R128). -/
def execRdwW2 (selector : Int) (data : Option Byte) (s : State) : Host.Outcome State Fault Refusal :=
  callBuildFrame ⟨selector, Operation.readWiper.code, 2, data⟩ s

/-- RDW.W3 (R128). -/
def execRdwW3 (selector : Int) (data : Option Byte) (s : State) : Host.Outcome State Fault Refusal :=
  callBuildFrame ⟨selector, Operation.readWiper.code, 3, data⟩ s

/-- RDR.T01 (R129). -/
def execRdrT01 (selector : Int) (data : Option Byte) (s : State) : Host.Outcome State Fault Refusal :=
  callBuildFrame ⟨selector, Operation.readRegister.code, 0, data⟩ s

/-- RDR.T23 (R129). -/
def execRdrT23 (selector : Int) (data : Option Byte) (s : State) : Host.Outcome State Fault Refusal :=
  callBuildFrame ⟨selector, Operation.readRegister.code, 2, data⟩ s

end Sys2Proof.Machine
end

