-- ==== Sys2Proof/Machine/Frame.lean ====
section
/-! DEFINITION. The meanings of the six frame rows INC, DEC, WRW, WRR, RDW, RDR (spec/43_frame_builder.md): each is `buildFrame` with its
operation; a data byte that the operation forbids or lacks is the call's error and not the model's stop. -/

namespace Sys2Proof.Machine

/-- INC (R124). -/
def execInc (selector channel : Int) (data : Option Byte) (s : State) : Host.Outcome State Fault Refusal :=
  callBuildFrame ⟨selector, Operation.increment.code, channel, data⟩ s

/-- DEC (R125). -/
def execDec (selector channel : Int) (data : Option Byte) (s : State) : Host.Outcome State Fault Refusal :=
  callBuildFrame ⟨selector, Operation.decrement.code, channel, data⟩ s

/-- WRW (R126). -/
def execWrw (selector channel : Int) (data : Option Byte) (s : State) : Host.Outcome State Fault Refusal :=
  callBuildFrame ⟨selector, Operation.writeWiper.code, channel, data⟩ s

/-- WRR (R127). -/
def execWrr (selector register : Int) (data : Option Byte) (s : State) : Host.Outcome State Fault Refusal :=
  callBuildFrame ⟨selector, Operation.writeRegister.code, register, data⟩ s

/-- RDW (R128). -/
def execRdw (selector channel : Int) (data : Option Byte) (s : State) : Host.Outcome State Fault Refusal :=
  callBuildFrame ⟨selector, Operation.readWiper.code, channel, data⟩ s

/-- RDR (R129). -/
def execRdr (selector register : Int) (data : Option Byte) (s : State) : Host.Outcome State Fault Refusal :=
  callBuildFrame ⟨selector, Operation.readRegister.code, register, data⟩ s

end Sys2Proof.Machine
end

