-- ==== Sys2Proof/Machine/Resolver.lean ====
section
/-! DEFINITION. The meanings of RESOLVE_WIPER and RESOLVE_CONTROL (spec/40_address_resolver.md). -/

namespace Sys2Proof.Machine

/-- RESOLVE_WIPER (R92). -/
def execResolveWiper (channel : Int) (s : State) : Host.Outcome State Fault Refusal :=
  callResolveWiper ⟨channel⟩ s

/-- RESOLVE_CONTROL (R93). -/
def execResolveControl (register : Int) (s : State) : Host.Outcome State Fault Refusal :=
  callResolveControl ⟨register⟩ s

end Sys2Proof.Machine
end

