-- ==== Sys2Proof/Machine/Dispatch.lean ====
section
/-! DEFINITION. The dispatch: one arm per row of spec/opcode_table.json. -/

namespace Sys2Proof.Machine

/-- The meaning of each instruction: what a call of the block does to its surroundings. -/
def exec (i : Instr) (s : State) : Host.Outcome State Fault Refusal :=
  match i with
  | .resolveWiper channel => Sys2Proof.Machine.execResolveWiper channel s
  | .resolveControl register => Sys2Proof.Machine.execResolveControl register s
  | .addrByte selector direction => Sys2Proof.Machine.execAddrByte selector direction s
  | .cmdWr variant memoryAddress => Sys2Proof.Machine.execCmdWr variant memoryAddress s
  | .cmdInc memoryAddress => Sys2Proof.Machine.execCmdInc memoryAddress s
  | .cmdDec memoryAddress => Sys2Proof.Machine.execCmdDec memoryAddress s
  | .cmdRd variant memoryAddress => Sys2Proof.Machine.execCmdRd variant memoryAddress s
  | .rdreq selector => Sys2Proof.Machine.execRdreq selector s
  | .inc selector channel data => Sys2Proof.Machine.execInc selector channel data s
  | .dec selector channel data => Sys2Proof.Machine.execDec selector channel data s
  | .wrw selector channel data => Sys2Proof.Machine.execWrw selector channel data s
  | .wrr selector register data => Sys2Proof.Machine.execWrr selector register data s
  | .rdw selector channel data => Sys2Proof.Machine.execRdw selector channel data s
  | .rdr selector register data => Sys2Proof.Machine.execRdr selector register data s
  | .incW0 selector data => Sys2Proof.Machine.execIncW0 selector data s
  | .incW1 selector data => Sys2Proof.Machine.execIncW1 selector data s
  | .incW2 selector data => Sys2Proof.Machine.execIncW2 selector data s
  | .incW3 selector data => Sys2Proof.Machine.execIncW3 selector data s
  | .decW0 selector data => Sys2Proof.Machine.execDecW0 selector data s
  | .decW1 selector data => Sys2Proof.Machine.execDecW1 selector data s
  | .decW2 selector data => Sys2Proof.Machine.execDecW2 selector data s
  | .decW3 selector data => Sys2Proof.Machine.execDecW3 selector data s
  | .wrwW0 selector data => Sys2Proof.Machine.execWrwW0 selector data s
  | .wrwW1 selector data => Sys2Proof.Machine.execWrwW1 selector data s
  | .wrwW2 selector data => Sys2Proof.Machine.execWrwW2 selector data s
  | .wrwW3 selector data => Sys2Proof.Machine.execWrwW3 selector data s
  | .rdwW0 selector data => Sys2Proof.Machine.execRdwW0 selector data s
  | .rdwW1 selector data => Sys2Proof.Machine.execRdwW1 selector data s
  | .rdwW2 selector data => Sys2Proof.Machine.execRdwW2 selector data s
  | .rdwW3 selector data => Sys2Proof.Machine.execRdwW3 selector data s
  | .wrrT01 selector data => Sys2Proof.Machine.execWrrT01 selector data s
  | .wrrT23 selector data => Sys2Proof.Machine.execWrrT23 selector data s
  | .rdrT01 selector data => Sys2Proof.Machine.execRdrT01 selector data s
  | .rdrT23 selector data => Sys2Proof.Machine.execRdrT23 selector data s

end Sys2Proof.Machine
end

