-- ==== Sys2Proof/WellFormed.lean ====
section
/-! DEFINITION. A well-formed instruction is a valid call: every index operand in [0,3] (R25) and the data byte present
exactly for the write operations (R131). An instruction that is not well formed still runs: it reports its errors. -/

namespace Sys2Proof

/-- The valid domain of a Channel, a ControlRegister or a DeviceSelector: "an integer in [0,3]" (R25). -/
def indexValid (v : Int) : Bool := decide (0 ≤ v) && decide (v ≤ 3)

/-- A frame call without data at a fixed index is valid when its selector is (R24, R131). -/
def validWithoutData (selector : Int) (data : Option Byte) : Bool := indexValid selector && data.isNone

/-- A frame call with data at a fixed index is valid when its selector is (R24, R131). -/
def validWithData (selector : Int) (data : Option Byte) : Bool := indexValid selector && data.isSome

/-- The instruction is a valid call (R25, R131). Any nibble is a valid memory address of a command byte (R117 b). -/
def Instr.wellFormed : Instr → Bool
  | .resolveWiper channel => indexValid channel
  | .resolveControl register => indexValid register
  | .addrByte selector _ => indexValid selector
  | .cmdWr _ _ => true
  | .cmdInc _ => true
  | .cmdDec _ => true
  | .cmdRd _ _ => true
  | .rdreq selector => indexValid selector
  | .inc selector channel data => validWithoutData selector data && indexValid channel
  | .dec selector channel data => validWithoutData selector data && indexValid channel
  | .wrw selector channel data => validWithData selector data && indexValid channel
  | .wrr selector register data => validWithData selector data && indexValid register
  | .rdw selector channel data => validWithoutData selector data && indexValid channel
  | .rdr selector register data => validWithoutData selector data && indexValid register
  | .incW0 selector data => validWithoutData selector data
  | .incW1 selector data => validWithoutData selector data
  | .incW2 selector data => validWithoutData selector data
  | .incW3 selector data => validWithoutData selector data
  | .decW0 selector data => validWithoutData selector data
  | .decW1 selector data => validWithoutData selector data
  | .decW2 selector data => validWithoutData selector data
  | .decW3 selector data => validWithoutData selector data
  | .wrwW0 selector data => validWithData selector data
  | .wrwW1 selector data => validWithData selector data
  | .wrwW2 selector data => validWithData selector data
  | .wrwW3 selector data => validWithData selector data
  | .rdwW0 selector data => validWithoutData selector data
  | .rdwW1 selector data => validWithoutData selector data
  | .rdwW2 selector data => validWithoutData selector data
  | .rdwW3 selector data => validWithoutData selector data
  | .wrrT01 selector data => validWithData selector data
  | .wrrT23 selector data => validWithData selector data
  | .rdrT01 selector data => validWithoutData selector data
  | .rdrT23 selector data => validWithoutData selector data

end Sys2Proof
end

