-- ==== Sys2Proof/Decode.lean ====
section
/-! DEFINITION. Reading emitted bits back: the spec's decode helpers (R143 to R145), a decoder from emitted bits to the
instruction that emits them, total and refusing by name, and after it the encoder, written from the bit patterns of
spec/opcode_table.json. The block itself reads no instruction bytes; its instructions are calls, and their "encoding" is
what they emit (R8). Where several rows emit the same bits, the decoder's choice is the model's: notes/assumptions/6.md. -/

namespace Sys2Proof

/-- `decodeAddressByte`: selector and direction of an address byte; `none` is the helper's refusal (R143). -/
def decodeAddressByte (b : Byte) : Option (BitVec 2 × Direction) :=
  if b.extractLsb' 3 5 = 0b01011#5 then some (b.extractLsb' 1 2, Direction.ofBit (b.extractLsb' 0 1)) else none

/-- `decodeCommandByte`: memory address and opcode of a command byte; `none` is the helper's refusal (R144). -/
def decodeCommandByte (b : Byte) : Option (Nibble × BitVec 2) :=
  if b.extractLsb' 0 2 = 0b00#2 then some (b.extractLsb' 4 4, b.extractLsb' 2 2) else none

/-- The fields `decodeFrame` recovers (R145). -/
structure DecodedFrame where
  selector : BitVec 2
  direction : Direction
  command : Option (Nibble × BitVec 2)
  data : Option Byte
  deriving DecidableEq, Repr

/-- `decodeFrame`: the fields of a frame of formats F1, F2, F3; any address nibble is accepted (R145). -/
def decodeFrame : List Byte → Option DecodedFrame
  | [] => none
  | b0 :: rest =>
    match decodeAddressByte b0, rest with
    | none, _ => none
    | some (sel, .read), [] => some ⟨sel, .read, none, none⟩
    | some (_, .read), _ :: _ => none
    | some (_, .write), [] => none
    | some (sel, .write), b1 :: tail =>
      match decodeCommandByte b1, tail with
      | none, _ => none
      | some (a, opc), [] => if opc = 0b00 then none else some ⟨sel, .write, some (a, opc), none⟩
      | some (a, opc), [d] => if opc = 0b00 then some ⟨sel, .write, some (a, opc), some d⟩ else none
      | some _, _ :: _ :: _ => none

/-- The number of bytes of the frame that starts a byte stream, read off its first bytes (R71); `none` where the stream
ends before it can be told. -/
def streamFrameLength : List Byte → Option Nat
  | [] => none
  | b0 :: rest =>
    if b0.extractLsb' 0 1 = 1#1 then some 1
    else
      match rest with
      | [] => none
      | b1 :: _ => if b1.extractLsb' 2 2 = 0b00#2 then some 3 else some 2

/-- The 7-bit bus address of an address byte: bits 7 to 1 (R41). -/
def busAddress (b : Byte) : BitVec 7 := b.extractLsb' 1 7

/-! ### From emitted bits to the instruction -/

/-- The Increment frame row at a target register; none at a TCON register (R73 d, R122). -/
def incrementAt (selector : Int) : TargetRegister → Option Instr
  | .wiper0 => some (.incW0 selector none)
  | .wiper1 => some (.incW1 selector none)
  | .wiper2 => some (.incW2 selector none)
  | .wiper3 => some (.incW3 selector none)
  | .tcon01 => none
  | .tcon23 => none

/-- The Decrement frame row at a target register; none at a TCON register (R73 d, R122). -/
def decrementAt (selector : Int) : TargetRegister → Option Instr
  | .wiper0 => some (.decW0 selector none)
  | .wiper1 => some (.decW1 selector none)
  | .wiper2 => some (.decW2 selector none)
  | .wiper3 => some (.decW3 selector none)
  | .tcon01 => none
  | .tcon23 => none

/-- The write frame row at a target register: the address tells WriteWiper from WriteRegister (R144). -/
def writeAt (selector : Int) (data : Byte) : TargetRegister → Instr
  | .wiper0 => .wrwW0 selector (some data)
  | .wiper1 => .wrwW1 selector (some data)
  | .wiper2 => .wrwW2 selector (some data)
  | .wiper3 => .wrwW3 selector (some data)
  | .tcon01 => .wrrT01 selector (some data)
  | .tcon23 => .wrrT23 selector (some data)

/-- The read frame row at a target register: the address tells ReadWiper from ReadRegister (R144). -/
def readAt (selector : Int) : TargetRegister → Instr
  | .wiper0 => .rdwW0 selector none
  | .wiper1 => .rdwW1 selector none
  | .wiper2 => .rdwW2 selector none
  | .wiper3 => .rdwW3 selector none
  | .tcon01 => .rdrT01 selector none
  | .tcon23 => .rdrT23 selector none

/-- The two-byte frame row (F2) with a given opcode at a target register (R64, R67). -/
def commandFrameAt (selector : Int) (opcode : BitVec 2) (target : TargetRegister) : Except DecodeReject Instr :=
  if opcode = 0b00 then .error .missingData
  else if opcode = 0b01 then
    match incrementAt selector target with
    | some i => .ok i
    | none => .error .tconNotCounted
  else if opcode = 0b10 then
    match decrementAt selector target with
    | some i => .ok i
    | none => .error .tconNotCounted
  else .ok (readAt selector target)

/-- The frame row that emits an address byte with R/W = 0, a command byte and the bytes `tail` (R64, R73). -/
def decodeCommandFrame (selector : Int) (b1 : Byte) (tail : List Byte) : Except DecodeReject Instr :=
  match decodeCommandByte b1 with
  | none => .error .commandLowBitsSet
  | some (a, opcode) =>
    match targetAt a with
    | none => .error .addressNotReached
    | some target =>
      match tail with
      | [] => commandFrameAt selector opcode target
      | [d] => if opcode = 0b00 then .ok (writeAt selector d target) else .error .trailingByte
      | _ :: _ :: _ => .error .trailingByte

/-- The variant of a lone Write or Read command byte, told by its address where the address tells it (R144), else the
wiper variant (DESIGN CHOICE, notes/assumptions/6.md). -/
def variantAt (a : Nibble) : IndexClass :=
  match targetAt a with
  | some target => target.indexClass
  | none => .wiper

/-- The command-byte row of an opcode and an address (R67, R113 to R116). -/
def commandByteInstr (a : Nibble) (opcode : BitVec 2) : Instr :=
  if opcode = 0b00 then .cmdWr (variantAt a) a
  else if opcode = 0b01 then .cmdInc a
  else if opcode = 0b10 then .cmdDec a
  else .cmdRd (variantAt a) a

/-- A single byte: an address byte where it can be one (a frame starts with one, R44), and then RDREQ when R/W = 1
(R64 F1); else a command byte. The order is the model's (DESIGN CHOICE, notes/assumptions/6.md). -/
def decodeSingleByte (b : Byte) : Except DecodeReject Instr :=
  match decodeAddressByte b with
  | some (sel, .read) => .ok (.rdreq sel.toNat)
  | some (sel, .write) => .ok (.addrByte sel.toNat .write)
  | none =>
    match decodeCommandByte b with
    | some (a, opcode) => .ok (commandByteInstr a opcode)
    | none => .error .notAByteOfTheBlock

/-- A 4-bit address: the resolver call that answers it, the lower ControlRegister index of a pair (R90, R91; DESIGN
CHOICE, notes/assumptions/6.md). -/
def decodeNibble (a : Nibble) : Except DecodeReject Instr :=
  match targetAt a with
  | some .wiper0 => .ok (.resolveWiper 0)
  | some .wiper1 => .ok (.resolveWiper 1)
  | some .wiper2 => .ok (.resolveWiper 2)
  | some .wiper3 => .ok (.resolveWiper 3)
  | some .tcon01 => .ok (.resolveControl 0)
  | some .tcon23 => .ok (.resolveControl 2)
  | none => .error .nibbleNotResolved

/-- The instruction that emits the given bits, or the name of the reason why none does (R64, R72, R73). -/
def decode : Emission → Except DecodeReject Instr
  | .nibble a => decodeNibble a
  | .bytes [] => .error .empty
  | .bytes [b] => decodeSingleByte b
  | .bytes (b0 :: b1 :: tail) =>
    match decodeAddressByte b0 with
    | none => .error .notAnAddressByte
    | some (_, .read) => .error .byteAfterReadRequest
    | some (sel, .write) => decodeCommandFrame sel.toNat b1 tail

/-- `n` bytes of a number, the most significant first. -/
def bytesOfNat : Nat → Nat → List Byte
  | 0, _ => []
  | n + 1, w => bytesOfNat n (w / 256) ++ [BitVec.ofNat 8 w]

/-- The emitted bits that a word of spec/opcode_table.json stands for: the table reads a frame as one number whose most
significant byte is the byte sent first (its "encoding", "match" and "mask" columns), and gives the resolvers 4 bits
(DEDUCED, notes/assumptions/5.md). -/
def emissionOfTableWord (nbits w : Nat) : Emission :=
  if nbits = 4 then .nibble (BitVec.ofNat 4 w) else .bytes (bytesOfNat ((nbits + 7) / 8) w)

/-- The instruction the decoder reads from a word numbered as spec/opcode_table.json numbers it. -/
def decodeTableWord (nbits w : Nat) : Option Instr :=
  match decode (emissionOfTableWord nbits w) with
  | .ok i => some i
  | .error _ => none

/-! ### From the instruction to its bits

The patterns below are the "encoding" column of spec/opcode_table.json, bit for bit: fixed bits as literals, `s`, `r`,
`a`, `d` as the fields. They are written apart from the formulas of Machine/Ops.lean, so that the agreement of the two is
a statement about the model. -/

/-- A one-byte pattern. -/
def pattern8 (w : BitVec 8) : Emission := .bytes [w]

/-- A two-byte pattern, first byte in the high bits. -/
def pattern16 (w : BitVec 16) : Emission := .bytes [w.extractLsb' 8 8, w.extractLsb' 0 8]

/-- A three-byte pattern, first byte in the high bits. -/
def pattern24 (w : BitVec 24) : Emission := .bytes [w.extractLsb' 16 8, w.extractLsb' 8 8, w.extractLsb' 0 8]

/-- `01011ss1` (RDREQ). -/
def patternReadRequest (s : BitVec 2) : Emission := pattern8 (0b01011#5 ++ s ++ 0b1#1)

/-- `01011ss0aaaa0100` (INC). -/
def patternInc (s : BitVec 2) (a : Nibble) : Emission := pattern16 (0b01011#5 ++ s ++ 0b0#1 ++ a ++ 0b0100#4)

/-- `01011ss0aaaa1000` (DEC). -/
def patternDec (s : BitVec 2) (a : Nibble) : Emission := pattern16 (0b01011#5 ++ s ++ 0b0#1 ++ a ++ 0b1000#4)

/-- `01011ss0aaaa1100` (RDW, RDR). -/
def patternRead (s : BitVec 2) (a : Nibble) : Emission := pattern16 (0b01011#5 ++ s ++ 0b0#1 ++ a ++ 0b1100#4)

/-- `01011ss0aaaa0000dddddddd` (WRW, WRR). -/
def patternWrite (s : BitVec 2) (a : Nibble) (d : Byte) : Emission :=
  pattern24 (0b01011#5 ++ s ++ 0b0#1 ++ a ++ 0b0000#4 ++ d)

/-- The bits of an instruction, its index operands taken as 2-bit fields and an absent data byte as zeros: meaningful
for well-formed instructions only, which is all `encode` uses it for. -/
def Instr.pattern : Instr → Emission
  | .resolveWiper channel => .nibble (wiperAddress (indexBits channel))
  | .resolveControl register => .nibble (controlAddress (indexBits register))
  | .addrByte selector direction => pattern8 (0b01011#5 ++ indexBits selector ++ direction.bit)
  | .cmdWr _ a => pattern8 (a ++ 0b0000#4)
  | .cmdInc a => pattern8 (a ++ 0b0100#4)
  | .cmdDec a => pattern8 (a ++ 0b1000#4)
  | .cmdRd _ a => pattern8 (a ++ 0b1100#4)
  | .rdreq selector => patternReadRequest (indexBits selector)
  | .inc selector channel _ => patternInc (indexBits selector) (wiperAddress (indexBits channel))
  | .dec selector channel _ => patternDec (indexBits selector) (wiperAddress (indexBits channel))
  | .wrw selector channel data =>
    patternWrite (indexBits selector) (wiperAddress (indexBits channel)) (data.getD 0)
  | .wrr selector register data =>
    patternWrite (indexBits selector) (controlAddress (indexBits register)) (data.getD 0)
  | .rdw selector channel _ => patternRead (indexBits selector) (wiperAddress (indexBits channel))
  | .rdr selector register _ => patternRead (indexBits selector) (controlAddress (indexBits register))
  | .incW0 selector _ => patternInc (indexBits selector) 0b0000
  | .incW1 selector _ => patternInc (indexBits selector) 0b0001
  | .incW2 selector _ => patternInc (indexBits selector) 0b0110
  | .incW3 selector _ => patternInc (indexBits selector) 0b0111
  | .decW0 selector _ => patternDec (indexBits selector) 0b0000
  | .decW1 selector _ => patternDec (indexBits selector) 0b0001
  | .decW2 selector _ => patternDec (indexBits selector) 0b0110
  | .decW3 selector _ => patternDec (indexBits selector) 0b0111
  | .wrwW0 selector data => patternWrite (indexBits selector) 0b0000 (data.getD 0)
  | .wrwW1 selector data => patternWrite (indexBits selector) 0b0001 (data.getD 0)
  | .wrwW2 selector data => patternWrite (indexBits selector) 0b0110 (data.getD 0)
  | .wrwW3 selector data => patternWrite (indexBits selector) 0b0111 (data.getD 0)
  | .rdwW0 selector _ => patternRead (indexBits selector) 0b0000
  | .rdwW1 selector _ => patternRead (indexBits selector) 0b0001
  | .rdwW2 selector _ => patternRead (indexBits selector) 0b0110
  | .rdwW3 selector _ => patternRead (indexBits selector) 0b0111
  | .wrrT01 selector data => patternWrite (indexBits selector) 0b0100 (data.getD 0)
  | .wrrT23 selector data => patternWrite (indexBits selector) 0b1010 (data.getD 0)
  | .rdrT01 selector _ => patternRead (indexBits selector) 0b0100
  | .rdrT23 selector _ => patternRead (indexBits selector) 0b1010

/-- The bits of a well-formed instruction; a call that fails emits nothing (R167). -/
def encode (i : Instr) : Option Emission := if i.wellFormed then some i.pattern else none

/-- The number of emitted bits: the table's "width_bits". -/
def Emission.bitCount : Emission → Nat
  | .nibble _ => 4
  | .bytes bs => 8 * bs.length

/-- The instruction the decoder names where several rows emit the same bits: the concrete row of a frame, RDREQ for an
address byte with R/W = 1, the address byte where a command byte has the same bits, the lower index of a ControlRegister
pair, and the variant that a command byte's address tells; for well-formed instructions (DESIGN CHOICE, notes/assumptions/6.md). -/
def Instr.canonical : Instr → Instr
  | .resolveControl register => .resolveControl (if register ≤ 1 then 0 else 2)
  | .addrByte selector .read => .rdreq selector
  | .cmdDec a => if a = 0x5 then .addrByte 0 .write else .cmdDec a
  | .cmdWr _ a => .cmdWr (variantAt a) a
  | .cmdRd _ a => if a = 0x5 then .addrByte 2 .write else .cmdRd (variantAt a) a
  | .inc selector channel data =>
    if channel = 0 then .incW0 selector data else if channel = 1 then .incW1 selector data
    else if channel = 2 then .incW2 selector data else .incW3 selector data
  | .dec selector channel data =>
    if channel = 0 then .decW0 selector data else if channel = 1 then .decW1 selector data
    else if channel = 2 then .decW2 selector data else .decW3 selector data
  | .wrw selector channel data =>
    if channel = 0 then .wrwW0 selector data else if channel = 1 then .wrwW1 selector data
    else if channel = 2 then .wrwW2 selector data else .wrwW3 selector data
  | .wrr selector register data => if register ≤ 1 then .wrrT01 selector data else .wrrT23 selector data
  | .rdw selector channel data =>
    if channel = 0 then .rdwW0 selector data else if channel = 1 then .rdwW1 selector data
    else if channel = 2 then .rdwW2 selector data else .rdwW3 selector data
  | .rdr selector register data => if register ≤ 1 then .rdrT01 selector data else .rdrT23 selector data
  | .resolveWiper channel => .resolveWiper channel
  | .addrByte selector .write => .addrByte selector .write
  | .cmdInc a => .cmdInc a
  | .rdreq selector => .rdreq selector
  | .incW0 selector data => .incW0 selector data
  | .incW1 selector data => .incW1 selector data
  | .incW2 selector data => .incW2 selector data
  | .incW3 selector data => .incW3 selector data
  | .decW0 selector data => .decW0 selector data
  | .decW1 selector data => .decW1 selector data
  | .decW2 selector data => .decW2 selector data
  | .decW3 selector data => .decW3 selector data
  | .wrwW0 selector data => .wrwW0 selector data
  | .wrwW1 selector data => .wrwW1 selector data
  | .wrwW2 selector data => .wrwW2 selector data
  | .wrwW3 selector data => .wrwW3 selector data
  | .rdwW0 selector data => .rdwW0 selector data
  | .rdwW1 selector data => .rdwW1 selector data
  | .rdwW2 selector data => .rdwW2 selector data
  | .rdwW3 selector data => .rdwW3 selector data
  | .wrrT01 selector data => .wrrT01 selector data
  | .wrrT23 selector data => .wrrT23 selector data
  | .rdrT01 selector data => .rdrT01 selector data
  | .rdrT23 selector data => .rdrT23 selector data

end Sys2Proof
end

