-- ==== Sys2Proof/Machine/Fetch.lean ====
section
/-! DEFINITION. What a pending request is: the instruction that the call syntax, the port codes or the emitted bits name. The
block fetches nothing (R22, R53); this is the reading of the caller's request. -/

namespace Sys2Proof.Machine

/-- The command-byte row of an operation: Write and Read rows keep which of their two variants was asked for (R113 to
R116). -/
def commandInstr (op : Operation) (memoryAddress : Nibble) : Instr :=
  match op with
  | .increment => .cmdInc memoryAddress
  | .decrement => .cmdDec memoryAddress
  | .writeWiper => .cmdWr .wiper memoryAddress
  | .writeRegister => .cmdWr .control memoryAddress
  | .readWiper => .cmdRd .wiper memoryAddress
  | .readRegister => .cmdRd .control memoryAddress

/-- The frame row of an operation (R124 to R129). -/
def frameInstr (op : Operation) (selector index : Int) (data : Option Byte) : Instr :=
  match op with
  | .increment => .inc selector index data
  | .decrement => .dec selector index data
  | .writeWiper => .wrw selector index data
  | .writeRegister => .wrr selector index data
  | .readWiper => .rdw selector index data
  | .readRegister => .rdr selector index data

/-- What a request is (R74 to R76, R78, R140). -/
def fetch (r : Request) : Fetched :=
  match r with
  | .call i => .instr i
  | .rw p => .instr (.resolveWiper p.channel)
  | .rc p => .instr (.resolveControl p.register)
  | .ab p => .instr (.addrByte p.selector (.ofBit p.direction))
  | .ec p =>
    match operationOfCode p.operation with
    | some op => .instr (commandInstr op p.memAddr)
    | none => .reservedCommand p
  | .bf p =>
    match operationOfCode p.operation with
    | some op => .instr (frameInstr op p.selector p.index p.data)
    | none => .reservedFrame p
  | .emitted e =>
    match decode e with
    | .ok i => .instr i
    | .error reason => .rejected reason

end Sys2Proof.Machine
end

