-- ==== Sys2Proof/Machine/Step.lean ====
section
/-! DEFINITION. One step: the caller's next call is made. -/

namespace Sys2Proof.Machine

/-- Run what a request turned out to be. A port-level call with a reserved operation code is no instruction; it reports
its errors (R112, R133). -/
def runFetched (f : Fetched) (s : State) : Host.Outcome State Fault Refusal :=
  match f with
  | .instr i => exec i s
  | .reservedCommand p => callEncodeCommand p s
  | .reservedFrame p => callBuildFrame p s
  | .rejected reason => .refused (.undecodable reason)

/-- One step makes the next pending call. With no call pending nothing happens: the block has no notion of a last call or
a halt (R153; DESIGN CHOICE, notes/assumptions/4.md). -/
def step (s : State) : Host.Outcome State Fault Refusal :=
  match s.pending with
  | [] => .next s
  | r :: rest => runFetched (fetch r) { s with pending := rest }

/-- The state in which the next call to be made is the one that the table word `w` of `nbits` bits names
(notes/assumptions/3.md). -/
def State.withFetchWord (s : State) (nbits w : Nat) : State :=
  { s with pending := .emitted (emissionOfTableWord nbits w) :: s.pending }

end Sys2Proof.Machine
end

