-- ==== Sys2Proof/Config.lean ====
section
/-! DEFINITION. What an implementation of the block fixes: the one open parameter IDX_W (R7, D3, U9). The spec leaves no
other value to the implementation and no value of a call free (R149), so this file holds no free value. The functions of
the block are defined over all integers, which covers every IDX_W at once; the port level (Machine/Ports.lean) is stated
for every width. -/

namespace Sys2Proof.Config

/-- The least width of an index input: with 2 bits no out-of-range value could be presented (R7, D3). -/
def idxWMin : Nat := 3

/-- The default width of an index input (R7, D3). -/
def idxWDefault : Nat := 8

/-- `w` is a width that the parameter IDX_W may take (R7). -/
abbrev idxWAllowed (w : Nat) : Prop := idxWMin ≤ w

/-- The integer `v` can be carried by an index input of `w` bits, read as an unsigned binary number (R7). -/
abbrev representable (w : Nat) (v : Int) : Prop := 0 ≤ v ∧ v < 2 ^ w

end Sys2Proof.Config
end

