-- ==== Sys2Proof/Machine/Ports.lean ====
section
/-! DEFINITION. The port level: raw inputs of each group at a width `w` of the index inputs (R94, R100, R110, R120), the
output ports as a function of what the pins carry (R140), and the reading of outputs as an outcome. The zeros driven on a
result output under error, and on byte lanes beyond `frame_len`, are padding of the spec's own choice (R135, D9, D10):
they stand here and in no outcome, and no statement is made about them (notes/assumptions/19.md). -/

namespace Sys2Proof.Machine

/-! ### Raw inputs -/

/-- `rw_` inputs at width `w`. -/
structure RawWiperIn (w : Nat) where
  channel : BitVec w
  deriving DecidableEq, Repr

/-- `rc_` inputs at width `w`. -/
structure RawControlIn (w : Nat) where
  register : BitVec w
  deriving DecidableEq, Repr

/-- `ab_` inputs at width `w`. -/
structure RawAddressIn (w : Nat) where
  selector : BitVec w
  direction : BitVec 1
  deriving DecidableEq, Repr

/-- `bf_` inputs at width `w`. -/
structure RawFrameIn (w : Nat) where
  selector : BitVec w
  operation : BitVec 3
  index : BitVec w
  dataPresent : BitVec 1
  data : Byte
  deriving DecidableEq, Repr

/-- An index input read as an unsigned binary number, whole and not narrowed (R7, R80). -/
def indexOfRaw {w : Nat} (v : BitVec w) : Int := v.toNat

/-- The `rw_` pins that raw inputs stand for. -/
def RawWiperIn.pins {w : Nat} (r : RawWiperIn w) : WiperPins := ⟨indexOfRaw r.channel⟩

/-- The `rc_` pins that raw inputs stand for. -/
def RawControlIn.pins {w : Nat} (r : RawControlIn w) : ControlPins := ⟨indexOfRaw r.register⟩

/-- The `ab_` pins that raw inputs stand for. -/
def RawAddressIn.pins {w : Nat} (r : RawAddressIn w) : AddressPins := ⟨indexOfRaw r.selector, r.direction⟩

/-- The `bf_` pins that raw inputs stand for: the data lines are not looked at when `data_present` is 0 (R131, D23). -/
def RawFrameIn.pins {w : Nat} (r : RawFrameIn w) : FramePins :=
  { selector := indexOfRaw r.selector, operation := r.operation, index := indexOfRaw r.index,
    data := if r.dataPresent = 1 then some r.data else none }

/-! ### Outputs -/

/-- Outputs of a resolver group (R94). -/
structure AddressOut where
  addr : Nibble
  errOutOfRange : BitVec 1
  deriving DecidableEq, Repr

/-- Outputs of `ab_` (R100). -/
structure AddressByteOut where
  addrByte : Byte
  errOutOfRange : BitVec 1
  deriving DecidableEq, Repr

/-- Outputs of `ec_` (R110). -/
structure CommandOut where
  cmdByte : Byte
  errInvalidOperation : BitVec 1
  deriving DecidableEq, Repr

/-- Outputs of `bf_` (R120). -/
structure FrameOut where
  frameLen : BitVec 2
  byte0 : Byte
  byte1 : Byte
  byte2 : Byte
  errOutOfRange : BitVec 1
  errInvalidOperation : BitVec 1
  deriving DecidableEq, Repr

/-- A resolver's outputs (R94). -/
def renderAddress : Except ErrorSet Nibble → AddressOut
  | .ok a => ⟨a, 0⟩
  | .error e => ⟨0, BitVec.ofBool e.outOfRange⟩

/-- The address-byte outputs (R100). -/
def renderAddressByte : Except ErrorSet Byte → AddressByteOut
  | .ok b => ⟨b, 0⟩
  | .error e => ⟨0, BitVec.ofBool e.outOfRange⟩

/-- The command-byte outputs (R110). -/
def renderCommand : Except ErrorSet Byte → CommandOut
  | .ok b => ⟨b, 0⟩
  | .error e => ⟨0, BitVec.ofBool e.invalidOperation⟩

/-- The frame outputs (R120, R135). -/
def renderFrame : Except ErrorSet Frame → FrameOut
  | .ok (.addressOnly b0) => ⟨1, b0, 0, 0, 0, 0⟩
  | .ok (.command b0 b1) => ⟨2, b0, b1, 0, 0, 0⟩
  | .ok (.commandData b0 b1 b2) => ⟨3, b0, b1, b2, 0, 0⟩
  | .error e => ⟨0, 0, 0, 0, BitVec.ofBool e.outOfRange, BitVec.ofBool e.invalidOperation⟩

/-- Outputs of `rw_`, a function of its pins alone (R142). -/
def WiperPins.out (p : WiperPins) : AddressOut := renderAddress (resolveWiperAddress p.channel)

/-- Outputs of `rc_`, a function of its pins alone (R142). -/
def ControlPins.out (p : ControlPins) : AddressOut := renderAddress (resolveControlAddress p.register)

/-- Outputs of `ab_`, a function of its pins alone (R142). -/
def AddressPins.out (p : AddressPins) : AddressByteOut :=
  renderAddressByte (encodeAddressByte p.selector (.ofBit p.direction))

/-- Outputs of `ec_`, a function of its pins alone (R142). -/
def CommandPins.out (p : CommandPins) : CommandOut :=
  renderCommand (encodeCommand (operationOfCode p.operation) p.memAddr)

/-- Outputs of `bf_`, a function of its pins alone (R142). -/
def FramePins.out (p : FramePins) : FrameOut :=
  renderFrame (buildFrame p.selector (operationOfCode p.operation) p.index p.data)

/-- The bytes of the frame a consumer takes from the `bf_` outputs: the first `frame_len` (R120). -/
def FrameOut.frameBytes (o : FrameOut) : List Byte := [o.byte0, o.byte1, o.byte2].take o.frameLen.toNat

/-- The outputs of the top level (R140); `none` where the inputs of a group are undriven and its outputs unknown (R181). -/
structure TopOut where
  rw : Option AddressOut
  rc : Option AddressOut
  ab : Option AddressByteOut
  ec : Option CommandOut
  bf : Option FrameOut
  deriving DecidableEq, Repr

/-- The top level: five groups side by side, each a function of its own inputs (R140, R141, R142). -/
def PortPins.out (p : PortPins) : TopOut :=
  { rw := p.rw.map WiperPins.out, rc := p.rc.map ControlPins.out, ab := p.ab.map AddressPins.out,
    ec := p.ec.map CommandPins.out, bf := p.bf.map FramePins.out }

end Sys2Proof.Machine
end

