-- ==== Sys2Proof/Machine/Transaction.lean ====
section
/-! DEFINITION. The transactions the transport builds from the block's outputs (R79, R150, R151), the calls a transaction
makes, and the byte stream of a run of frames with the rule that tells where each ends (R71). The restart between the two
frames of a read is the transport's action; it stands here only as a mark in the stream. -/

namespace Sys2Proof.Machine

/-- An item of a transaction: a frame of the block, or the bus restart the transport performs (R150). -/
inductive BusItem where
  | frame (f : Frame)
  | restart
  deriving DecidableEq, Repr

/-- Write phase, restart, read request with the same selector. Both calls are made before the bus is touched, so an error
leaves no half-sent transaction (R150). -/
def readTransaction (writePhase : Except ErrorSet Frame) (selector : Int) : Except ErrorSet (List BusItem) := do
  let w ← writePhase
  let r ← readRequest selector
  return [.frame w, .restart, .frame r]

/-- READ_WIPER_TXN (R150). -/
def readWiperTxn (selector channel : Int) : Except ErrorSet (List BusItem) :=
  readTransaction (buildFrame selector (some .readWiper) channel none) selector

/-- READ_REGISTER_TXN (R150). -/
def readRegisterTxn (selector register : Int) : Except ErrorSet (List BusItem) :=
  readTransaction (buildFrame selector (some .readRegister) register none) selector

/-- A write, increment or decrement transaction: a single frame (R151). -/
def frameTxn (selector : Int) (op : Operation) (index : Int) (data : Option Byte) : Except ErrorSet (List BusItem) :=
  (buildFrame selector (some op) index data).map fun f => [.frame f]

/-- The calls of READ_WIPER_TXN, in order (R79, R150). -/
def readWiperCalls (selector channel : Int) : List Request :=
  [.call (.rdw selector channel none), .call (.rdreq selector)]

/-- The calls of READ_REGISTER_TXN, in order (R79, R150). -/
def readRegisterCalls (selector register : Int) : List Request :=
  [.call (.rdr selector register none), .call (.rdreq selector)]

/-- The frames among the items of a transaction, in order. -/
def framesOfItems : List BusItem → List Frame
  | [] => []
  | .frame f :: rest => f :: framesOfItems rest
  | .restart :: rest => framesOfItems rest

/-- The frames among observations, in order: of the outcomes of a program the transport sends only these (R153). -/
def framesOf : List Observation → List Frame
  | [] => []
  | .frame f :: rest => f :: framesOf rest
  | .address _ :: rest => framesOf rest
  | .byte _ :: rest => framesOf rest
  | .errors _ :: rest => framesOf rest

/-- The bytes of frames sent one after another (R44, R151). -/
def byteStream (fs : List Frame) : List Byte := fs.flatMap Frame.bytes

/-- Cut a byte stream into frames by the rule of R71; `none` where it ends inside a frame. -/
def splitStream : List Byte → Option (List Frame)
  | [] => some []
  | b0 :: rest =>
    if b0.extractLsb' 0 1 = 1#1 then (splitStream rest).map (.addressOnly b0 :: ·)
    else
      match rest with
      | [] => none
      | b1 :: rest' =>
        if b1.extractLsb' 2 2 = 0b00#2 then
          match rest' with
          | [] => none
          | d :: rest'' => (splitStream rest'').map (.commandData b0 b1 d :: ·)
        else (splitStream rest').map (.command b0 b1 :: ·)

end Sys2Proof.Machine
end

