-- ==== Sys2Proof/Safety.lean ====
section
/-! DEFINITION. What counts as a safe run: every outcome observed is one the block may give. The tests below are the byte and
frame formats of spec/30_encoding.md, written apart from the functions that build them. -/

namespace Sys2Proof.Machine

/-- An address byte: bits 7 to 3 are 01011 (R61, R73 a). -/
def isAddressByte (b : Byte) : Bool := decide (b.extractLsb' 3 5 = 0b01011#5)

/-- A command byte: bits 1 and 0 are 0 (R62, R73 b). -/
def isCommandByte (b : Byte) : Bool := decide (b.extractLsb' 0 2 = 0b00#2)

/-- The R/W bit is 1. -/
def hasReadBit (b : Byte) : Bool := decide (b.extractLsb' 0 1 = 1#1)

/-- The four addresses a wiper stands at (R31). -/
def isWiperAddress (a : Nibble) : Bool := decide (a = 0x0 ∨ a = 0x1 ∨ a = 0x6 ∨ a = 0x7)

/-- The six addresses the resolvers answer (R27). -/
def isReachedAddress (a : Nibble) : Bool := isWiperAddress a || decide (a = 0x4 ∨ a = 0xA)

/-- A frame of one of the three formats, with a memory address its operation can reach (R64, R69, R130). -/
def Frame.legal : Frame → Bool
  | .addressOnly b0 => isAddressByte b0 && hasReadBit b0
  | .command b0 b1 =>
    isAddressByte b0 && !hasReadBit b0 && isCommandByte b1 &&
      (if b1.extractLsb' 2 2 = 0b11#2 then isReachedAddress (b1.extractLsb' 4 4)
       else b1.extractLsb' 2 2 != 0b00#2 && isWiperAddress (b1.extractLsb' 4 4))
  | .commandData b0 b1 _ =>
    isAddressByte b0 && !hasReadBit b0 && isCommandByte b1 && b1.extractLsb' 2 2 == 0b00#2 &&
      isReachedAddress (b1.extractLsb' 4 4)

/-- An outcome that a call of the block may have (R27, R61, R62, R149). -/
def Observation.legal : Observation → Bool
  | .address a => isReachedAddress a
  | .byte b => isAddressByte b || isCommandByte b
  | .frame f => f.legal
  | .errors e => !e.isEmpty

/-- The observation so far holds only outcomes the block may have. -/
def State.Inv (s : State) : Prop := ∀ o ∈ s.observed, o.legal = true

/-- The bits an outcome puts out: an address, a byte or the bytes of a frame; a failed call puts out none (R167). -/
def Observation.emission : Observation → Option Emission
  | .address a => some (.nibble a)
  | .byte b => some (.bytes [b])
  | .frame f => some (.bytes f.bytes)
  | .errors _ => none

/-- A port group of the top level (R140). -/
inductive PortGroup where
  | rw
  | rc
  | ab
  | ec
  | bf
  deriving DecidableEq, Repr

/-- The port group whose function an instruction calls (R140). -/
def groupOf : Instr → PortGroup
  | .resolveWiper _ => .rw
  | .resolveControl _ => .rc
  | .addrByte _ _ => .ab
  | .cmdWr _ _ => .ec
  | .cmdInc _ => .ec
  | .cmdDec _ => .ec
  | .cmdRd _ _ => .ec
  | .rdreq _ => .ab
  | .inc _ _ _ => .bf
  | .dec _ _ _ => .bf
  | .wrw _ _ _ => .bf
  | .wrr _ _ _ => .bf
  | .rdw _ _ _ => .bf
  | .rdr _ _ _ => .bf
  | .incW0 _ _ => .bf
  | .incW1 _ _ => .bf
  | .incW2 _ _ => .bf
  | .incW3 _ _ => .bf
  | .decW0 _ _ => .bf
  | .decW1 _ _ => .bf
  | .decW2 _ _ => .bf
  | .decW3 _ _ => .bf
  | .wrwW0 _ _ => .bf
  | .wrwW1 _ _ => .bf
  | .wrwW2 _ _ => .bf
  | .wrwW3 _ _ => .bf
  | .rdwW0 _ _ => .bf
  | .rdwW1 _ _ => .bf
  | .rdwW2 _ _ => .bf
  | .rdwW3 _ _ => .bf
  | .wrrT01 _ _ => .bf
  | .wrrT23 _ _ => .bf
  | .rdrT01 _ _ => .bf
  | .rdrT23 _ _ => .bf

/-- The pins of every port group but one are the same (R142). -/
def PortPins.agreeExcept (g : PortGroup) (p q : PortPins) : Prop :=
  (g ≠ .rw → p.rw = q.rw) ∧ (g ≠ .rc → p.rc = q.rc) ∧ (g ≠ .ab → p.ab = q.ab) ∧ (g ≠ .ec → p.ec = q.ec) ∧
    (g ≠ .bf → p.bf = q.bf)

/-- The outcomes a call observes on its own, made from reset; a call of the block has exactly one (R149, R153). -/
def soloObservation (i : Instr) : List Observation :=
  match exec i State.reset with
  | .next t => t.observed
  | .fault _ => []
  | .refused _ => []

end Sys2Proof.Machine
end

