-- ==== Sys2Proof/Certificates/Slice0/Obligations.lean ====
section
/-! DEFINITION. The statements for the provers. Those of basis "stated" formalise a numbered rule of the spec; the others say in
their docstring which decision of the spec (D<n>) or choice of the model (log <n> = notes/assumptions/<n>.md) they rest on. -/

open Sys2Proof Sys2Proof.Machine

namespace Sys2Proof.Stmt

/-- WIPER_ADDR as R90 prints it. -/
def wiper : Fin 4 → Nibble := ![0x0, 0x1, 0x6, 0x7]

/-- CTRL_ADDR as R91 prints it. -/
def control : Fin 4 → Nibble := ![0x4, 0x4, 0xA, 0xA]

/-- `0x58 | (s << 1)`: the address byte with R/W = 0 (R124 to R129). -/
def addressWrite (sel : Fin 4) : Byte := 0x58#8 ||| (BitVec.ofNat 8 sel.val <<< 1)

/-- Outside [0,3] (R25). -/
abbrev bad (v : Int) : Prop := v < 0 ∨ 3 < v

/-- Each concrete frame row beside its frame row at the index the table's "call" column gives. -/
def concretePairs (sel : Int) (data : Option Byte) : List (Instr × Instr) :=
  [(.incW0 sel data, .inc sel 0 data), (.incW1 sel data, .inc sel 1 data)] ++
  [(.incW2 sel data, .inc sel 2 data), (.incW3 sel data, .inc sel 3 data)] ++
  [(.decW0 sel data, .dec sel 0 data), (.decW1 sel data, .dec sel 1 data)] ++
  [(.decW2 sel data, .dec sel 2 data), (.decW3 sel data, .dec sel 3 data)] ++
  [(.wrwW0 sel data, .wrw sel 0 data), (.wrwW1 sel data, .wrw sel 1 data)] ++
  [(.wrwW2 sel data, .wrw sel 2 data), (.wrwW3 sel data, .wrw sel 3 data)] ++
  [(.rdwW0 sel data, .rdw sel 0 data), (.rdwW1 sel data, .rdw sel 1 data)] ++
  [(.rdwW2 sel data, .rdw sel 2 data), (.rdwW3 sel data, .rdw sel 3 data)] ++
  [(.wrrT01 sel data, .wrr sel 0 data), (.wrrT01 sel data, .wrr sel 1 data)] ++
  [(.wrrT23 sel data, .wrr sel 2 data), (.wrrT23 sel data, .wrr sel 3 data)] ++
  [(.rdrT01 sel data, .rdr sel 0 data), (.rdrT01 sel data, .rdr sel 1 data)] ++
  [(.rdrT23 sel data, .rdr sel 2 data), (.rdrT23 sel data, .rdr sel 3 data)]

/-- The concrete frame rows and RDREQ with valid data presence. -/
def concreteRows (sel : Int) (d : Byte) : List Instr :=
  [.incW0 sel none, .incW1 sel none, .incW2 sel none, .incW3 sel none] ++
  [.decW0 sel none, .decW1 sel none, .decW2 sel none, .decW3 sel none] ++
  [.rdwW0 sel none, .rdwW1 sel none, .rdwW2 sel none, .rdwW3 sel none] ++
  [.rdrT01 sel none, .rdrT23 sel none, .wrwW0 sel (some d), .wrwW1 sel (some d)] ++
  [.wrwW2 sel (some d), .wrwW3 sel (some d), .wrrT01 sel (some d), .wrrT23 sel (some d)] ++
  [.rdreq sel]

/-- The pins after an instruction: its port group carries the operands and the codes of R74 and R75, the other groups what
they carried. -/
def pinsAfter (i : Instr) (p : PortPins) : PortPins :=
  match i with
  | .resolveWiper c => { p with rw := some ⟨c⟩ }
  | .resolveControl r => { p with rc := some ⟨r⟩ }
  | .addrByte sel .write => { p with ab := some ⟨sel, 0⟩ }
  | .addrByte sel .read => { p with ab := some ⟨sel, 1⟩ }
  | .rdreq sel => { p with ab := some ⟨sel, 1⟩ }
  | .cmdInc a => { p with ec := some ⟨0, a⟩ }
  | .cmdDec a => { p with ec := some ⟨1, a⟩ }
  | .cmdWr .wiper a => { p with ec := some ⟨2, a⟩ }
  | .cmdWr .control a => { p with ec := some ⟨3, a⟩ }
  | .cmdRd .wiper a => { p with ec := some ⟨4, a⟩ }
  | .cmdRd .control a => { p with ec := some ⟨5, a⟩ }
  | .inc sel c d => { p with bf := some ⟨sel, 0, c, d⟩ }
  | .dec sel c d => { p with bf := some ⟨sel, 1, c, d⟩ }
  | .wrw sel c d => { p with bf := some ⟨sel, 2, c, d⟩ }
  | .wrr sel r d => { p with bf := some ⟨sel, 3, r, d⟩ }
  | .rdw sel c d => { p with bf := some ⟨sel, 4, c, d⟩ }
  | .rdr sel r d => { p with bf := some ⟨sel, 5, r, d⟩ }
  | .incW0 sel d => { p with bf := some ⟨sel, 0, 0, d⟩ }
  | .incW1 sel d => { p with bf := some ⟨sel, 0, 1, d⟩ }
  | .incW2 sel d => { p with bf := some ⟨sel, 0, 2, d⟩ }
  | .incW3 sel d => { p with bf := some ⟨sel, 0, 3, d⟩ }
  | .decW0 sel d => { p with bf := some ⟨sel, 1, 0, d⟩ }
  | .decW1 sel d => { p with bf := some ⟨sel, 1, 1, d⟩ }
  | .decW2 sel d => { p with bf := some ⟨sel, 1, 2, d⟩ }
  | .decW3 sel d => { p with bf := some ⟨sel, 1, 3, d⟩ }
  | .wrwW0 sel d => { p with bf := some ⟨sel, 2, 0, d⟩ }
  | .wrwW1 sel d => { p with bf := some ⟨sel, 2, 1, d⟩ }
  | .wrwW2 sel d => { p with bf := some ⟨sel, 2, 2, d⟩ }
  | .wrwW3 sel d => { p with bf := some ⟨sel, 2, 3, d⟩ }
  | .rdwW0 sel d => { p with bf := some ⟨sel, 4, 0, d⟩ }
  | .rdwW1 sel d => { p with bf := some ⟨sel, 4, 1, d⟩ }
  | .rdwW2 sel d => { p with bf := some ⟨sel, 4, 2, d⟩ }
  | .rdwW3 sel d => { p with bf := some ⟨sel, 4, 3, d⟩ }
  | .wrrT01 sel d => { p with bf := some ⟨sel, 3, 0, d⟩ }
  | .wrrT23 sel d => { p with bf := some ⟨sel, 3, 2, d⟩ }
  | .rdrT01 sel d => { p with bf := some ⟨sel, 5, 0, d⟩ }
  | .rdrT23 sel d => { p with bf := some ⟨sel, 5, 2, d⟩ }

end Sys2Proof.Stmt

open Sys2Proof.Stmt

/-- Formalises R90, R92. For every state: RESOLVE_WIPER of channel 0, 1, 2, 3 answers a next state whose observation
has gained the address 0x0, 0x1, 0x6, 0x7; for every integer channel outside [0,3] it has gained the error set with
OutOfRange alone, and the port output wiper_err_out_of_range is 1 exactly for those channels. -/
def Obligations.ResolveWiperAddressAnswersTheTable : Prop :=
  (∀ (s : State) (c : Fin 4), ∃ t, exec (.resolveWiper (c.val : Int)) s = .next t ∧
      t.observed = s.observed ++ [.address (wiper c)]) ∧
  (∀ (s : State) (c : Int), bad c → ∃ t, exec (.resolveWiper c) s = .next t ∧
      t.observed = s.observed ++ [.errors ⟨true, false⟩]) ∧
  (∀ c : Int, (WiperPins.out ⟨c⟩).errOutOfRange = 1 ↔ bad c)

/-- Formalises R91, R93. For every state: RESOLVE_CONTROL of register 0, 1, 2, 3 answers a next state whose
observation has gained the address 0x4, 0x4, 0xA, 0xA; for every integer register outside [0,3] it has gained the
error set with OutOfRange alone, and the port output ctrl_err_out_of_range is 1 exactly for those registers. -/
def Obligations.ResolveControlAddressAnswersTheTable : Prop :=
  (∀ (s : State) (r : Fin 4), ∃ t, exec (.resolveControl (r.val : Int)) s = .next t ∧
      t.observed = s.observed ++ [.address (control r)]) ∧
  (∀ (s : State) (r : Int), bad r → ∃ t, exec (.resolveControl r) s = .next t ∧
      t.observed = s.observed ++ [.errors ⟨true, false⟩]) ∧
  (∀ r : Int, (ControlPins.out ⟨r⟩).errOutOfRange = 1 ↔ bad r)

/-- Formalises R101. For every state: ADDR_BYTE of a selector in [0,3] answers a next state whose observation has
gained the byte 0x58 | (selector << 1) | rw, rw being 0 for Write and 1 for Read; for every other integer selector and
both directions it has gained the error set with OutOfRange alone, and err_out_of_range is 1 exactly for those
selectors. -/
def Obligations.AddressByteIsTheFormula : Prop :=
  (∀ (s : State) (sel : Fin 4), ∃ t, exec (.addrByte (sel.val : Int) .write) s = .next t ∧
      t.observed = s.observed ++ [.byte (addressWrite sel)]) ∧
  (∀ (s : State) (sel : Fin 4), ∃ t, exec (.addrByte (sel.val : Int) .read) s = .next t ∧
      t.observed = s.observed ++ [.byte (addressWrite sel ||| 0x01)]) ∧
  (∀ (s : State) (sel : Int) (d : Direction), bad sel → ∃ t, exec (.addrByte sel d) s = .next t ∧
      t.observed = s.observed ++ [.errors ⟨true, false⟩]) ∧
  (∀ (sel : Int) (d : BitVec 1), (AddressPins.out ⟨sel, d⟩).errOutOfRange = 1 ↔ bad sel)

/-- Derived (R103, 41_device_address_encoder.md section 3). For every state: RDREQ of a selector in [0,3] answers a
next state whose observation has gained the AddressOnly frame with the byte 0x58 | (s << 1) | 1; for every other
integer there is no frame but OutOfRange; and every frame buildFrame returns has two or three bytes, the first with
bit 0 equal to 0. That the one-byte frame is no operation of buildFrame is the spec's decision D12. -/
def Obligations.ReadRequestIsTheOneByteFrame : Prop :=
  (∀ (s : State) (sel : Fin 4), ∃ t, exec (.rdreq (sel.val : Int)) s = .next t ∧
      t.observed = s.observed ++ [.frame (.addressOnly (addressWrite sel ||| 0x01))]) ∧
  (∀ (s : State) (sel : Int), bad sel → ∃ t, exec (.rdreq sel) s = .next t ∧
      t.observed = s.observed ++ [.errors ⟨true, false⟩]) ∧
  (∀ (sel : Int) (op : Option Operation) (index : Int) (data : Option Byte) (f : Frame),
      buildFrame sel op index data = .ok f →
      ∃ b0 b1, b0.extractLsb' 0 1 = 0#1 ∧ (f = .command b0 b1 ∨ ∃ d, f = .commandData b0 b1 d))

/-- Formalises R113, R114. For every state and every nibble a: CMD_INC a answers a next state whose observation has
gained the byte (a << 4) | 0x04, and CMD_DEC a one that has gained (a << 4) | 0x08. No error is possible. -/
def Obligations.IncrementAndDecrementCommandBytes : Prop :=
  (∀ (s : State) (a : Nibble), ∃ t, exec (.cmdInc a) s = .next t ∧
      t.observed = s.observed ++ [.byte (a.setWidth 8 <<< 4 ||| 0x04)]) ∧
  (∀ (s : State) (a : Nibble), ∃ t, exec (.cmdDec a) s = .next t ∧
      t.observed = s.observed ++ [.byte (a.setWidth 8 <<< 4 ||| 0x08)])

/-- Formalises R115, R116. For every state and every nibble a: CMD_WR a, as WriteWiper and as WriteRegister alike,
answers a next state whose observation has gained the byte a << 4; CMD_RD a, as ReadWiper and as ReadRegister alike,
one that has gained (a << 4) | 0x0C. No error is possible and no address is checked. -/
def Obligations.WriteAndReadCommandBytes : Prop :=
  (∀ (s : State) (v : IndexClass) (a : Nibble), ∃ t, exec (.cmdWr v a) s = .next t ∧
      t.observed = s.observed ++ [.byte (a.setWidth 8 <<< 4)]) ∧
  (∀ (s : State) (v : IndexClass) (a : Nibble), ∃ t, exec (.cmdRd v a) s = .next t ∧
      t.observed = s.observed ++ [.byte (a.setWidth 8 <<< 4 ||| 0x0C)])

/-- Derived (R67, R68, R62). For every operation and every memory address, encodeCommand gives a byte whose bits 7 to 4
are the address, whose bits 3 to 2 are 01 for Increment, 10 for Decrement, 00 for the writes and 11 for the reads, and
whose bits 1 to 0 are 00. That the two writes share opcode Write and the two reads opcode Read is the spec's decision
D15. -/
def Obligations.OpcodeFieldOfEveryOperation : Prop :=
  ∀ (op : Operation) (a : Nibble), ∃ b, encodeCommand (some op) a = .ok b ∧ b.extractLsb' 4 4 = a ∧
    b.extractLsb' 0 2 = 0b00#2 ∧
    b.extractLsb' 2 2 =
      (match op with
      | .increment => 0b01#2
      | .decrement => 0b10#2
      | .writeWiper => 0b00#2
      | .writeRegister => 0b00#2
      | .readWiper => 0b11#2
      | .readRegister => 0b11#2)

/-- Formalises R124. For every state: INC with selector and channel in [0,3] and data absent answers a next state and
its observation has gained the two-byte frame [0x58 | (s << 1), (WIPER_ADDR[channel] << 4) | 0x04]; on all other
operands it answers a next state whose observation has gained an error set with OutOfRange if and only if selector or
channel is outside [0,3], and InvalidOperation if and only if data is present. -/
def Obligations.IncrementFrameAndErrors : Prop :=
  (∀ (s : State) (sel i : Fin 4), ∃ t, exec (.inc (sel.val : Int) (i.val : Int) none) s = .next t ∧
      t.observed = s.observed ++ [.frame (.command (addressWrite sel) ((wiper i).setWidth 8 <<< 4 ||| 0x04))]) ∧
  (∀ (s : State) (sel i : Int) (data : Option Byte), (bad sel ∨ bad i ∨ data ≠ none) →
      ∃ t, exec (.inc sel i data) s = .next t ∧
        t.observed = s.observed ++ [.errors ⟨decide (bad sel ∨ bad i), decide (data ≠ none)⟩])

/-- Formalises R125. For every state: DEC with selector and channel in [0,3] and data absent answers a next state and
its observation has gained the two-byte frame [0x58 | (s << 1), (WIPER_ADDR[channel] << 4) | 0x08]; on all other
operands it answers a next state whose observation has gained an error set with OutOfRange if and only if selector or
channel is outside [0,3], and InvalidOperation if and only if data is present. -/
def Obligations.DecrementFrameAndErrors : Prop :=
  (∀ (s : State) (sel i : Fin 4), ∃ t, exec (.dec (sel.val : Int) (i.val : Int) none) s = .next t ∧
      t.observed = s.observed ++ [.frame (.command (addressWrite sel) ((wiper i).setWidth 8 <<< 4 ||| 0x08))]) ∧
  (∀ (s : State) (sel i : Int) (data : Option Byte), (bad sel ∨ bad i ∨ data ≠ none) →
      ∃ t, exec (.dec sel i data) s = .next t ∧
        t.observed = s.observed ++ [.errors ⟨decide (bad sel ∨ bad i), decide (data ≠ none)⟩])

/-- Formalises R126. For every state: WRW with selector and channel in [0,3] and data present answers a next state and
its observation has gained the three-byte frame [0x58 | (s << 1), WIPER_ADDR[channel] << 4, d], every data byte d
passed through unmodified; on all other operands it answers a next state whose observation has gained an error set
with OutOfRange if and only if selector or channel is outside [0,3], and InvalidOperation if and only if data is
absent. -/
def Obligations.WriteWiperFrameAndErrors : Prop :=
  (∀ (s : State) (sel i : Fin 4) (d : Byte), ∃ t, exec (.wrw (sel.val : Int) (i.val : Int) (some d)) s = .next t ∧
      t.observed = s.observed ++ [.frame (.commandData (addressWrite sel) ((wiper i).setWidth 8 <<< 4) d)]) ∧
  (∀ (s : State) (sel i : Int) (data : Option Byte), (bad sel ∨ bad i ∨ data = none) →
      ∃ t, exec (.wrw sel i data) s = .next t ∧
        t.observed = s.observed ++ [.errors ⟨decide (bad sel ∨ bad i), decide (data = none)⟩])

/-- Derived (R127, 43_frame_builder.md section 3). For every state: WRR with selector and register in [0,3] and data
present answers a next state and its observation has gained the three-byte frame [0x58 | (s << 1), CTRL_ADDR[register]
<< 4, d], every data byte d passed through unmodified; on all other operands it answers a next state whose observation
has gained an error set with OutOfRange if and only if selector or register is outside [0,3], and InvalidOperation if
and only if data is absent. That the data byte is passed through and no bit of it is defined is the spec's decision
D17. -/
def Obligations.WriteRegisterFrameAndErrors : Prop :=
  (∀ (s : State) (sel i : Fin 4) (d : Byte), ∃ t, exec (.wrr (sel.val : Int) (i.val : Int) (some d)) s = .next t ∧
      t.observed = s.observed ++ [.frame (.commandData (addressWrite sel) ((control i).setWidth 8 <<< 4) d)]) ∧
  (∀ (s : State) (sel i : Int) (data : Option Byte), (bad sel ∨ bad i ∨ data = none) →
      ∃ t, exec (.wrr sel i data) s = .next t ∧
        t.observed = s.observed ++ [.errors ⟨decide (bad sel ∨ bad i), decide (data = none)⟩])

/-- Formalises R128. For every state: RDW with selector and channel in [0,3] and data absent answers a next state and
its observation has gained the two-byte frame [0x58 | (s << 1), (WIPER_ADDR[channel] << 4) | 0x0C]; on all other
operands it answers a next state whose observation has gained an error set with OutOfRange if and only if selector or
channel is outside [0,3], and InvalidOperation if and only if data is present. -/
def Obligations.ReadWiperFrameAndErrors : Prop :=
  (∀ (s : State) (sel i : Fin 4), ∃ t, exec (.rdw (sel.val : Int) (i.val : Int) none) s = .next t ∧
      t.observed = s.observed ++ [.frame (.command (addressWrite sel) ((wiper i).setWidth 8 <<< 4 ||| 0x0C))]) ∧
  (∀ (s : State) (sel i : Int) (data : Option Byte), (bad sel ∨ bad i ∨ data ≠ none) →
      ∃ t, exec (.rdw sel i data) s = .next t ∧
        t.observed = s.observed ++ [.errors ⟨decide (bad sel ∨ bad i), decide (data ≠ none)⟩])

/-- Formalises R129. For every state: RDR with selector and register in [0,3] and data absent answers a next state and
its observation has gained the two-byte frame [0x58 | (s << 1), (CTRL_ADDR[register] << 4) | 0x0C]; on all other
operands it answers a next state whose observation has gained an error set with OutOfRange if and only if selector or
register is outside [0,3], and InvalidOperation if and only if data is present. -/
def Obligations.ReadRegisterFrameAndErrors : Prop :=
  (∀ (s : State) (sel i : Fin 4), ∃ t, exec (.rdr (sel.val : Int) (i.val : Int) none) s = .next t ∧
      t.observed = s.observed ++ [.frame (.command (addressWrite sel) ((control i).setWidth 8 <<< 4 ||| 0x0C))]) ∧
  (∀ (s : State) (sel i : Int) (data : Option Byte), (bad sel ∨ bad i ∨ data ≠ none) →
      ∃ t, exec (.rdr sel i data) s = .next t ∧
        t.observed = s.observed ++ [.errors ⟨decide (bad sel ∨ bad i), decide (data ≠ none)⟩])

/-- Derived (R69, R124, R125). For every state and every selector in [0,3], each of the rows incW0, incW1, incW2,
incW3, decW0, decW1, decW2, decW3 answers a next state whose observation has gained its frame: 0x58 | (s << 1), then
the command byte of its address (0x04, 0x14, 0x64, 0x74, 0x08, 0x18, 0x68, 0x78 in order). The bytes are those of the
table of R69, which the spec marks as derived. -/
def Obligations.ConcreteIncrementAndDecrementFrames : Prop :=
  (∀ (s : State) (sel : Fin 4), ∃ t, exec (.incW0 (sel.val : Int) none) s = .next t ∧
      t.observed = s.observed ++ [.frame (.command (addressWrite sel) 0x04)]) ∧
  (∀ (s : State) (sel : Fin 4), ∃ t, exec (.incW1 (sel.val : Int) none) s = .next t ∧
      t.observed = s.observed ++ [.frame (.command (addressWrite sel) 0x14)]) ∧
  (∀ (s : State) (sel : Fin 4), ∃ t, exec (.incW2 (sel.val : Int) none) s = .next t ∧
      t.observed = s.observed ++ [.frame (.command (addressWrite sel) 0x64)]) ∧
  (∀ (s : State) (sel : Fin 4), ∃ t, exec (.incW3 (sel.val : Int) none) s = .next t ∧
      t.observed = s.observed ++ [.frame (.command (addressWrite sel) 0x74)]) ∧
  (∀ (s : State) (sel : Fin 4), ∃ t, exec (.decW0 (sel.val : Int) none) s = .next t ∧
      t.observed = s.observed ++ [.frame (.command (addressWrite sel) 0x08)]) ∧
  (∀ (s : State) (sel : Fin 4), ∃ t, exec (.decW1 (sel.val : Int) none) s = .next t ∧
      t.observed = s.observed ++ [.frame (.command (addressWrite sel) 0x18)]) ∧
  (∀ (s : State) (sel : Fin 4), ∃ t, exec (.decW2 (sel.val : Int) none) s = .next t ∧
      t.observed = s.observed ++ [.frame (.command (addressWrite sel) 0x68)]) ∧
  (∀ (s : State) (sel : Fin 4), ∃ t, exec (.decW3 (sel.val : Int) none) s = .next t ∧
      t.observed = s.observed ++ [.frame (.command (addressWrite sel) 0x78)])

/-- Derived (R69, R126, R127). For every state and every selector in [0,3] and every data byte, each of the rows
wrwW0, wrwW1, wrwW2, wrwW3, wrrT01, wrrT23 answers a next state whose observation has gained its frame: 0x58 | (s <<
1), then the command byte of its address (0x00, 0x10, 0x60, 0x70, 0x40, 0xA0 in order), then the data byte unmodified.
The bytes are those of the table of R69, which the spec marks as derived. -/
def Obligations.ConcreteWriteFrames : Prop :=
  (∀ (s : State) (sel : Fin 4) (d : Byte), ∃ t, exec (.wrwW0 (sel.val : Int) (some d)) s = .next t ∧
      t.observed = s.observed ++ [.frame (.commandData (addressWrite sel) 0x00 d)]) ∧
  (∀ (s : State) (sel : Fin 4) (d : Byte), ∃ t, exec (.wrwW1 (sel.val : Int) (some d)) s = .next t ∧
      t.observed = s.observed ++ [.frame (.commandData (addressWrite sel) 0x10 d)]) ∧
  (∀ (s : State) (sel : Fin 4) (d : Byte), ∃ t, exec (.wrwW2 (sel.val : Int) (some d)) s = .next t ∧
      t.observed = s.observed ++ [.frame (.commandData (addressWrite sel) 0x60 d)]) ∧
  (∀ (s : State) (sel : Fin 4) (d : Byte), ∃ t, exec (.wrwW3 (sel.val : Int) (some d)) s = .next t ∧
      t.observed = s.observed ++ [.frame (.commandData (addressWrite sel) 0x70 d)]) ∧
  (∀ (s : State) (sel : Fin 4) (d : Byte), ∃ t, exec (.wrrT01 (sel.val : Int) (some d)) s = .next t ∧
      t.observed = s.observed ++ [.frame (.commandData (addressWrite sel) 0x40 d)]) ∧
  (∀ (s : State) (sel : Fin 4) (d : Byte), ∃ t, exec (.wrrT23 (sel.val : Int) (some d)) s = .next t ∧
      t.observed = s.observed ++ [.frame (.commandData (addressWrite sel) 0xA0 d)])

/-- Derived (R69, R128, R129). For every state and every selector in [0,3], each of the rows rdwW0, rdwW1, rdwW2,
rdwW3, rdrT01, rdrT23 answers a next state whose observation has gained its frame: 0x58 | (s << 1), then the command
byte of its address (0x0C, 0x1C, 0x6C, 0x7C, 0x4C, 0xAC in order). The bytes are those of the table of R69, which the
spec marks as derived. -/
def Obligations.ConcreteReadFrames : Prop :=
  (∀ (s : State) (sel : Fin 4), ∃ t, exec (.rdwW0 (sel.val : Int) none) s = .next t ∧
      t.observed = s.observed ++ [.frame (.command (addressWrite sel) 0x0C)]) ∧
  (∀ (s : State) (sel : Fin 4), ∃ t, exec (.rdwW1 (sel.val : Int) none) s = .next t ∧
      t.observed = s.observed ++ [.frame (.command (addressWrite sel) 0x1C)]) ∧
  (∀ (s : State) (sel : Fin 4), ∃ t, exec (.rdwW2 (sel.val : Int) none) s = .next t ∧
      t.observed = s.observed ++ [.frame (.command (addressWrite sel) 0x6C)]) ∧
  (∀ (s : State) (sel : Fin 4), ∃ t, exec (.rdwW3 (sel.val : Int) none) s = .next t ∧
      t.observed = s.observed ++ [.frame (.command (addressWrite sel) 0x7C)]) ∧
  (∀ (s : State) (sel : Fin 4), ∃ t, exec (.rdrT01 (sel.val : Int) none) s = .next t ∧
      t.observed = s.observed ++ [.frame (.command (addressWrite sel) 0x4C)]) ∧
  (∀ (s : State) (sel : Fin 4), ∃ t, exec (.rdrT23 (sel.val : Int) none) s = .next t ∧
      t.observed = s.observed ++ [.frame (.command (addressWrite sel) 0xAC)])

/-- Derived (R124, R125, R126, R127, R128, R129, R49). For every pair of states, every integer selector and every
optional data byte, valid or not: each concrete frame row and its frame row at the row's index (INC.W0 and INC with
channel 0, and so on; WRR.T01 and RDR.T01 at register 0 and at register 1, WRR.T23 and RDR.T23 at 2 and at 3) both
answer a next state, and the same outcome is added to the observation. -/
def Obligations.ConcreteRowsObserveTheirFrameRow : Prop :=
  ∀ (s s' : State) (sel : Int) (data : Option Byte),
    ∀ p ∈ concretePairs sel data, ∃ t t' o, exec p.1 s = .next t ∧ exec p.2 s' = .next t' ∧
      t.observed = s.observed ++ [o] ∧ t'.observed = s'.observed ++ [o]

/-- Derived (R123, R131, R161, R162). For every integer selector and index, every operation and every optional data
byte: buildFrame gives a frame if selector and index are in [0,3] and data is present exactly for the two writes;
otherwise it gives no frame but the error set with OutOfRange if and only if selector or index is outside [0,3] and
InvalidOperation if and only if the data presence is wrong. That all errors are reported together is the spec's
decision D8. -/
def Obligations.BuildFrameErrorsAreComplete : Prop :=
  ∀ (sel index : Int) (op : Operation) (data : Option Byte),
    (¬ bad sel ∧ ¬ bad index ∧ (data.isSome = true ↔ op = .writeWiper ∨ op = .writeRegister) ∧
      ∃ f, buildFrame sel (some op) index data = .ok f) ∨
    ((bad sel ∨ bad index ∨ ¬(data.isSome = true ↔ op = .writeWiper ∨ op = .writeRegister)) ∧
      buildFrame sel (some op) index data =
        .error ⟨decide (bad sel ∨ bad index), decide (¬(data.isSome = true ↔ op = .writeWiper ∨ op = .writeRegister))⟩)

/-- Derived (R166, R123, R133). For every call of buildFrame, reserved operation codes included: the projected cause
is the selector if the selector is out of range; else the index if the operation is named and the index is out of
range; else InvalidOperation if the call fails; and none if and only if the call gives a frame. The order is the
spec's decision D8; that a reserved code raises InvalidOperation is its decision D5, and that the index is then not
checked and the selector is, its decision D25 (log 21). -/
def Obligations.SingleErrorOrder : Prop :=
  ∀ (sel index : Int) (op : Option Operation) (data : Option Byte),
    (frameErrorCause sel op index data = some .selectorOutOfRange ↔ bad sel) ∧
    (frameErrorCause sel op index data = some .indexOutOfRange ↔ ¬ bad sel ∧ op ≠ none ∧ bad index) ∧
    (frameErrorCause sel op index data = some .invalidOperation ↔
      ∃ e, buildFrame sel op index data = .error e ∧ e.outOfRange = false) ∧
    (frameErrorCause sel op index data = none ↔ ∃ f, buildFrame sel op index data = .ok f)

/-- Derived (R132, R133). For every successful call of buildFrame, reserved operation codes included, the operation is
one of the six and the frame has 3 bytes if it is WriteWiper or WriteRegister and 2 bytes if it is Increment,
Decrement, ReadWiper or ReadRegister. That a reserved operation code never gives a frame is R133, the spec's decision
D5 (log 21). -/
def Obligations.FrameLengthIsTheOperations : Prop :=
  ∀ (sel index : Int) (op : Option Operation) (data : Option Byte) (f : Frame),
    buildFrame sel op index data = .ok f →
    ((op = some .writeWiper ∨ op = some .writeRegister) ∧ f.bytes.length = 3) ∨
    ((op = some .increment ∨ op = some .decrement ∨ op = some .readWiper ∨ op = some .readRegister) ∧
      f.bytes.length = 2)

/-- Derived (R102, R130). For every successful call of buildFrame the selector is one of 0, 1, 2, 3 and the first byte
of the frame is 0x58, 0x5A, 0x5C, 0x5E respectively. The direction Write in every frame is the spec's decision D12. -/
def Obligations.FirstByteDependsOnTheSelectorOnly : Prop :=
  ∀ (sel index : Int) (op : Option Operation) (data : Option Byte) (f : Frame),
    buildFrame sel op index data = .ok f →
    ∃ k : Fin 4, sel = (k.val : Int) ∧ f.bytes.head? = some (addressWrite k)

/-- Derived (R148). For every call of buildFrame that gives a frame: the operation is named,
encodeAddressByte(selector, Write) gives its byte 0, the resolver of the operation's class (wiper for Increment,
Decrement, WriteWiper, ReadWiper; control for WriteRegister, ReadRegister) gives an address for the index,
encodeCommand of the operation and that address gives its byte 1, and byte 2 is the data byte of a write and absent
otherwise. R148 is marked as derived by the spec. -/
def Obligations.BuildFrameIsTheComposition : Prop :=
  ∀ (sel index : Int) (op : Operation) (data : Option Byte) (f : Frame),
    buildFrame sel (some op) index data = .ok f →
    ∃ b0 a b1, encodeAddressByte sel .write = .ok b0 ∧
      (if op = .writeRegister ∨ op = .readRegister then resolveControlAddress index else resolveWiperAddress index) = .ok a ∧
      encodeCommand (some op) a = .ok b1 ∧
      f.bytes = [b0, b1] ++ (if op = .writeWiper ∨ op = .writeRegister then data.toList else [])

/-- Formalises R49. resolveWiperAddress takes 0, 1, 2, 3 to 0x0, 0x1, 0x6, 0x7 and gives different addresses for
different valid channels; resolveControlAddress gives 0x4 for 0 and 1 and 0xA for 2 and 3; for register operations and
every selector and data, index 0 and 1 give the same result of buildFrame, and 2 and 3 likewise; an index outside
[0,3] raises OutOfRange in both resolvers and gives no address. -/
def Obligations.TranslationIsByTableWithPairAliasing : Prop :=
  (∀ c : Fin 4, resolveWiperAddress (c.val : Int) = .ok (wiper c)) ∧
  (∀ (c c' : Int) (a : Nibble), resolveWiperAddress c = .ok a → resolveWiperAddress c' = .ok a → c = c') ∧
  (∀ r : Fin 4, resolveControlAddress (r.val : Int) = .ok (control r)) ∧
  (∀ (sel : Int) (op : Operation) (data : Option Byte), (op = .writeRegister ∨ op = .readRegister) →
    buildFrame sel (some op) 0 data = buildFrame sel (some op) 1 data ∧
    buildFrame sel (some op) 2 data = buildFrame sel (some op) 3 data) ∧
  (∀ i : Int, bad i →
    resolveWiperAddress i = .error ⟨true, false⟩ ∧ resolveControlAddress i = .error ⟨true, false⟩)

/-- Formalises R95. For every integer: each resolver gives either an address, or an error set that has OutOfRange and
not InvalidOperation; and the outcome that a resolver call adds to the observation is the same in every two states. -/
def Obligations.ResolversAreTotalAndNeverInvalid : Prop :=
  (∀ i : Int, ((∃ a, resolveWiperAddress i = .ok a) ∨ resolveWiperAddress i = .error ⟨true, false⟩) ∧
    ((∃ a, resolveControlAddress i = .ok a) ∨ resolveControlAddress i = .error ⟨true, false⟩)) ∧
  (∀ (i : Int) (s s' : State), ∃ t t' o, exec (.resolveWiper i) s = .next t ∧ exec (.resolveWiper i) s' = .next t' ∧
    t.observed = s.observed ++ [o] ∧ t'.observed = s'.observed ++ [o]) ∧
  (∀ (i : Int) (s s' : State), ∃ t t' o, exec (.resolveControl i) s = .next t ∧ exec (.resolveControl i) s' = .next t' ∧
    t.observed = s.observed ++ [o] ∧ t'.observed = s'.observed ++ [o])

/-- Derived (R65, R66, R117). For every selector, direction, memory address and opcode: the address byte equals 0x58 +
2 * selector + rw, and the command byte equals 16 * memoryAddress + 4 * opcode, as natural numbers. The disjointness
is a remark the spec marks as derived. -/
def Obligations.OrEqualsSumInBothAssemblies : Prop :=
  (∀ (sel : BitVec 2) (d : Direction), (addressByte sel d).toNat = 0x58 + 2 * sel.toNat + d.bit.toNat) ∧
  (∀ (a : Nibble) (opc : BitVec 2), (commandByte a opc).toNat = 16 * a.toNat + 4 * opc.toNat)

/-- Derived (R133, R76). For every state whose next call is a bf port call with operation code 6 or 7: the step
answers a next state with that call taken, and the observation has gained the error set with InvalidOperation and with
OutOfRange if and only if the selector is outside [0,3], whatever the index and the data. This is the spec's decision
D5 and D25. -/
def Obligations.ReservedOperationCodeFrame : Prop :=
  ∀ (s : State) (p : FramePins) (rest : List Request), (p.operation = 6 ∨ p.operation = 7) →
    s.pending = .bf p :: rest →
    ∃ t, step s = .next t ∧ t.pending = rest ∧
      t.observed = s.observed ++ [.errors ⟨decide (bad p.selector), true⟩]

/-- Derived (R112, R76). For every state whose next call is an ec port call with operation code 6 or 7: the step
answers a next state with that call taken, and the observation has gained the error set with InvalidOperation alone.
This is the spec's decision D5. -/
def Obligations.ReservedOperationCodeCommand : Prop :=
  ∀ (s : State) (p : CommandPins) (rest : List Request), (p.operation = 6 ∨ p.operation = 7) →
    s.pending = .ec p :: rest →
    ∃ t, step s = .next t ∧ t.pending = rest ∧ t.observed = s.observed ++ [.errors ⟨false, true⟩]

/-- Derived (R74, R75, R140). A bf port call with code 0, 1, 2, 3, 4, 5 is INC, DEC, WRW, WRR, RDW, RDR with the same
selector, index and data; an ec port call with these codes is CMD_INC, CMD_DEC, CMD_WR (WriteWiper), CMD_WR
(WriteRegister), CMD_RD (ReadWiper), CMD_RD (ReadRegister); an ab port call with direction 0 or 1 is ADDR_BYTE with
Write or Read; the resolver ports are the resolver rows. The codes are the spec's decisions D4 and D6. -/
def Obligations.PortCodesNameTheOperations : Prop :=
  (∀ (sel i : Int) (d : Option Byte), fetch (.bf ⟨sel, 0, i, d⟩) = .instr (.inc sel i d) ∧
    fetch (.bf ⟨sel, 1, i, d⟩) = .instr (.dec sel i d) ∧ fetch (.bf ⟨sel, 2, i, d⟩) = .instr (.wrw sel i d) ∧
    fetch (.bf ⟨sel, 3, i, d⟩) = .instr (.wrr sel i d) ∧ fetch (.bf ⟨sel, 4, i, d⟩) = .instr (.rdw sel i d) ∧
    fetch (.bf ⟨sel, 5, i, d⟩) = .instr (.rdr sel i d)) ∧
  (∀ a : Nibble, fetch (.ec ⟨0, a⟩) = .instr (.cmdInc a) ∧ fetch (.ec ⟨1, a⟩) = .instr (.cmdDec a) ∧
    fetch (.ec ⟨2, a⟩) = .instr (.cmdWr .wiper a) ∧ fetch (.ec ⟨3, a⟩) = .instr (.cmdWr .control a) ∧
    fetch (.ec ⟨4, a⟩) = .instr (.cmdRd .wiper a) ∧ fetch (.ec ⟨5, a⟩) = .instr (.cmdRd .control a)) ∧
  (∀ sel : Int, fetch (.ab ⟨sel, 0⟩) = .instr (.addrByte sel .write) ∧
    fetch (.ab ⟨sel, 1⟩) = .instr (.addrByte sel .read)) ∧
  (∀ i : Int, fetch (.rw ⟨i⟩) = .instr (.resolveWiper i) ∧ fetch (.rc ⟨i⟩) = .instr (.resolveControl i))

/-- Formalises R149. For every state whose next call is a call of one of the five port groups with any input values:
the step answers a next state, the call is taken, exactly one outcome is added to the observation, and if it is an
error set it is not empty. -/
def Obligations.EveryPortCallHasOneOutcome : Prop :=
  ∀ (s : State) (r : Request) (rest : List Request), (∀ i, r ≠ .call i) → (∀ e, r ≠ .emitted e) →
    s.pending = r :: rest →
    ∃ t o, step s = .next t ∧ t.pending = rest ∧ t.observed = s.observed ++ [o] ∧
      ∀ e, o = .errors e → e.outOfRange = true ∨ e.invalidOperation = true

/-- Derived (R120, R140, R163). For every width w and every raw input of the bf group: if buildFrame of the values it
carries gives a frame, frame_len is its length, the first frame_len byte outputs are its bytes, and both error wires
are 0; if it gives an error set, frame_len is 0, no byte is taken, and each wire is 1 exactly for an error in the set.
The ports and wires are the spec's decisions D2, D7, D9. -/
def Obligations.OutputsShowTheOutcomeOfBuildFrame : Prop :=
  ∀ (w : Nat) (raw : RawFrameIn w),
    match buildFrame (raw.selector.toNat : Int) (operationOfCode raw.operation) (raw.index.toNat : Int)
        (if raw.dataPresent = 1 then some raw.data else none) with
    | .ok f => raw.pins.out.frameLen.toNat = f.bytes.length ∧ raw.pins.out.frameBytes = f.bytes ∧
        raw.pins.out.errOutOfRange = 0 ∧ raw.pins.out.errInvalidOperation = 0
    | .error e => raw.pins.out.frameLen = 0 ∧ raw.pins.out.frameBytes = [] ∧
        (raw.pins.out.errOutOfRange = 1 ↔ e.outOfRange = true) ∧
        (raw.pins.out.errInvalidOperation = 1 ↔ e.invalidOperation = true)

/-- Derived (R80, R94, R100, R7). For every width w: every integer from 0 to 2^w - 1 is the value of some raw index
input, and the error output of the wiper, control and address-byte groups is 1 exactly when the whole input value is
above 3. Ports and IDX_W are the spec's decisions D2 and D3. -/
def Obligations.RangeChecksUseTheWholeInput : Prop :=
  (∀ (w : Nat) (v : Int), Config.representable w v ↔ ∃ x : BitVec w, indexOfRaw x = v) ∧
  (∀ (w : Nat) (x : BitVec w) (d : BitVec 1),
    ((RawWiperIn.pins ⟨x⟩).out.errOutOfRange = 1 ↔ 3 < x.toNat) ∧
    ((RawControlIn.pins ⟨x⟩).out.errOutOfRange = 1 ↔ 3 < x.toNat) ∧
    ((RawAddressIn.pins ⟨x, d⟩).out.errOutOfRange = 1 ↔ 3 < x.toNat))

/-- Derived (R131, R120). For every width and every two raw inputs of the bf group that agree in everything but the
data lines and have data_present = 0, the outputs are equal. This is the spec's decision D23. -/
def Obligations.AbsentDataLinesAreIgnored : Prop :=
  ∀ (w : Nat) (sel i : BitVec w) (op : BitVec 3) (d d' : Byte),
    (RawFrameIn.pins ⟨sel, op, i, 0, d⟩).out = (RawFrameIn.pins ⟨sel, op, i, 0, d'⟩).out

/-- Derived (R142, R140, R141). For every instruction that answers a next state: the pending calls are unchanged, all
earlier outcomes stay and exactly one is added, the pins and the outputs of the four port groups whose function it
does not call are unchanged, and the group it calls is driven. That calls drive pins which then hold is the model's
picture (log 1 and log 11). -/
def Obligations.PortGroupsAreIndependent : Prop :=
  ∀ (i : Instr) (s t : State), exec i s = .next t →
    t.pending = s.pending ∧ (∃ o, t.observed = s.observed ++ [o]) ∧
    (groupOf i ≠ .rw → t.ports.rw = s.ports.rw ∧ t.ports.out.rw = s.ports.out.rw) ∧
    (groupOf i ≠ .rc → t.ports.rc = s.ports.rc ∧ t.ports.out.rc = s.ports.out.rc) ∧
    (groupOf i ≠ .ab → t.ports.ab = s.ports.ab ∧ t.ports.out.ab = s.ports.out.ab) ∧
    (groupOf i ≠ .ec → t.ports.ec = s.ports.ec ∧ t.ports.out.ec = s.ports.out.ec) ∧
    (groupOf i ≠ .bf → t.ports.bf = s.ports.bf ∧ t.ports.out.bf = s.ports.out.bf) ∧
    (groupOf i = .rw → ∃ p, t.ports.rw = some p) ∧ (groupOf i = .rc → ∃ p, t.ports.rc = some p) ∧
    (groupOf i = .ab → ∃ p, t.ports.ab = some p) ∧ (groupOf i = .ec → ∃ p, t.ports.ec = some p) ∧
    (groupOf i = .bf → ∃ p, t.ports.bf = some p)

/-- Derived (R184, R140, R74). For every state whose next call is a port call: the step answers a next state in which
that group's pins carry the presented values, reserved operation codes included, and the other calls are still
pending. That the values are held is the model's picture (log 1 and log 11). -/
def Obligations.CallDrivesItsPins : Prop :=
  (∀ (s : State) (p : WiperPins) (rest : List Request), s.pending = .rw p :: rest →
    ∃ t, step s = .next t ∧ t.ports.rw = some p ∧ t.pending = rest) ∧
  (∀ (s : State) (p : ControlPins) (rest : List Request), s.pending = .rc p :: rest →
    ∃ t, step s = .next t ∧ t.ports.rc = some p ∧ t.pending = rest) ∧
  (∀ (s : State) (p : AddressPins) (rest : List Request), s.pending = .ab p :: rest →
    ∃ t, step s = .next t ∧ t.ports.ab = some p ∧ t.pending = rest) ∧
  (∀ (s : State) (p : CommandPins) (rest : List Request), s.pending = .ec p :: rest →
    ∃ t, step s = .next t ∧ t.ports.ec = some p ∧ t.pending = rest) ∧
  (∀ (s : State) (p : FramePins) (rest : List Request), s.pending = .bf p :: rest →
    ∃ t, step s = .next t ∧ t.ports.bf = some p ∧ t.pending = rest)

/-- Derived (R163). For every error set the 2-bit code has bit 0 equal to OutOfRange and bit 1 equal to
InvalidOperation, so that its value is 1 for OutOfRange alone, 2 for InvalidOperation alone, 3 for both and 0 for
neither. The numbers are the spec's decision D7. -/
def Obligations.ErrorCodeVector : Prop :=
  ∀ e : ErrorSet, e.code.getLsbD 0 = e.outOfRange ∧ e.code.getLsbD 1 = e.invalidOperation ∧
    e.code.toNat = (if e.outOfRange then 1 else 0) + (if e.invalidOperation then 2 else 0)

/-- Derived (R78, R140, R153). For every state with a pending call that names instruction i (in the call syntax; or by
port values; or by emitted bits that decode to i): the step is exec i at the state with that call taken off. In
particular, if the table word w of nbits bits decodes to i, the step after withFetchWord is exec i at the state
itself. That calls stand in a list is the model's picture (log 1 and log 3). -/
def Obligations.StepRunsTheNextCall : Prop :=
  (∀ (s : State) (r : Request) (rest : List Request) (i : Instr), s.pending = r :: rest → fetch r = .instr i →
    step s = exec i { s with pending := rest }) ∧
  (∀ i : Instr, fetch (.call i) = .instr i) ∧
  (∀ (e : Emission) (i : Instr), decode e = .ok i → fetch (.emitted e) = .instr i) ∧
  (∀ (s : State) (nbits w : Nat) (i : Instr), decodeTableWord nbits w = some i →
    step (s.withFetchWord nbits w) = exec i s)

/-- Derived (R153). For every state with no pending call the step answers that same state. This is the model's choice
(log 4): the spec says only that the block has no notion of a last call, a halt or a final state. -/
def Obligations.StepIsIdleWithoutACall : Prop :=
  ∀ s : State, s.pending = [] → step s = .next s

/-- Derived (R149, R73). For every state: either the step answers a next state, or its next call is named by emitted
bits that the decoder rejects, and then the step is refused with that reason. No step ends in a fault. That such a
request is refused, with the decoder's reason, is the model's choice (log 17): R73 only says that the block never
emits such bits. That no step is a fault is read from the spec (log 7, deduced). -/
def Obligations.StepStopsOnlyOnForeignBits : Prop :=
  ∀ s : State, (∃ t, step s = .next t) ∨
    ∃ e reason rest, s.pending = .emitted e :: rest ∧ decode e = .error reason ∧
      step s = .refused (.undecodable reason)

/-- Formalises R146. For every instruction there is one outcome that it adds to the observation in every state, errors
as well as results: repeated calls with identical inputs give identical frames and identical errors, whatever happened
between them. -/
def Obligations.CallsArePure : Prop :=
  ∀ i : Instr, ∃ o : Observation, ∀ s : State, ∃ t, exec i s = .next t ∧ t.observed = s.observed ++ [o]

/-- Derived (R153, R50, R169). For every list of instructions and every state that has them pending: running as many
steps as there are calls answers a next state with nothing pending, whose observation is the earlier one followed,
call by call, by the single outcome each instruction has on its own. Errors leave no trace in later calls. R153 marks
this as derived; the list of calls is the model's picture (log 1). -/
def Obligations.ProgramObservationIsCallByCall : Prop :=
  (∀ i : Instr, ∃ o, soloObservation i = [o]) ∧
  (∀ (calls : List Instr) (s : State), ∃ t,
    Sys2Proof.core.run calls.length ({ s with pending := calls.map .call } : State) = .next t ∧
      State.pending t = [] ∧ State.observed t = s.observed ++ calls.flatMap soloObservation)

/-- Derived (R180, R181, 10_state.md section 4). State.reset has all five port groups undriven, all five groups of
outputs unknown, no pending call and no observation. The block has no state and the spec gives no reset value: the
values are the model's choice (log 2). -/
def Obligations.ResetIsUndrivenAndUnobserved : Prop :=
  State.reset.ports = ⟨none, none, none, none, none⟩ ∧ State.reset.ports.out = ⟨none, none, none, none, none⟩ ∧
    State.reset.pending = [] ∧ State.reset.observed = []

/-- Derived (R33, R180). State.reset meets the invariant: every outcome observed so far is legal. It does because
nothing has been observed at reset, which is the model's choice (log 2): the block has no state and the spec gives no
reset value. -/
def Obligations.ResetMeetsTheInvariant : Prop :=
  State.reset.Inv

/-- Derived (R27, R61, R62, R64, R69, R73, R149). For every state in which every observed outcome is legal, if the
step answers a next state then every outcome observed there is legal: an address is one of 0x0, 0x1, 0x4, 0x6, 0x7,
0xA; a byte has 01011 in bits 7 to 3 or 00 in bits 1 to 0; a frame is of format F1, F2 or F3 with an address its
opcode can reach; an error set is not empty. -/
def Obligations.StepKeepsObservationsLegal : Prop :=
  ∀ s t : State, s.Inv → step s = .next t → t.Inv

/-- Derived (R64, R72, 30_encoding.md section 4). For every instruction i that has an encoding e: decode e is the
canonical instruction of i, which has the same encoding e. The canonical instruction is i itself but where several
rows emit the same bits; which of them is named is the model's choice (log 6). -/
def Obligations.DecodeReadsBackEveryEncoding : Prop :=
  ∀ (i : Instr) (e : Emission), encode i = some e → decode e = .ok i.canonical ∧ encode i.canonical = some e

/-- Derived (R64, R69, R103). For every selector in [0,3] and every data byte, each of the twenty concrete frame rows
(with data exactly for the writes) and RDREQ has an encoding, and decoding it gives that same instruction with that
selector and data. That a frame decodes to its concrete row and not to INC, DEC, WRW, WRR, RDW or RDR, and 01011ss1 to
RDREQ and not to ADDR_BYTE with Read, is the model's choice (log 6): these rows have the same bits. -/
def Obligations.ConcreteFramesRoundTrip : Prop :=
  ∀ (sel : Fin 4) (d : Byte), ∀ i ∈ concreteRows (sel.val : Int) d, ∃ e, encode i = some e ∧ decode e = .ok i

/-- Derived (R64, R72, R73). For all emitted bits e and every instruction i: if decode e is i, then i is well formed
and its encoding is e. So the decoder drops no bit and accepts nothing the block does not emit. -/
def Obligations.DecodedBitsEncodeBack : Prop :=
  ∀ (e : Emission) (i : Instr), decode e = .ok i → i.wellFormed = true ∧ encode i = some e

/-- Derived (R65, R66, R64, R72, R167). For every instruction and every state: if it is well formed, it answers a next
state whose observation has gained an outcome that puts out exactly the bits of its encoding, the pattern of
spec/opcode_table.json; if not, it answers a next state whose observation has gained a non-empty error set, and it has
no encoding. The arithmetic formulas and the bit patterns are two separate descriptions of the spec. -/
def Obligations.ExecEmitsTheEncoding : Prop :=
  ∀ (i : Instr) (s : State), ∃ t o, exec i s = .next t ∧ t.observed = s.observed ++ [o] ∧
    (i.wellFormed = true → ∃ e, encode i = some e ∧ o.emission = some e) ∧
    (i.wellFormed = false → encode i = none ∧ ∃ errs, o = .errors errs ∧ errs.isEmpty = false)

/-- Derived (R73, R143, R144, R145). No byte at all is refused as empty; a 4-bit address other than 0x0, 0x1, 0x4,
0x6, 0x7, 0xA is refused as resolved by none; one byte that has neither 01011 in bits 7 to 3 nor 00 in bits 1 to 0 is
refused as no byte of the block, and one byte that has either names an instruction, a write address byte alone naming
ADDR_BYTE with Write. Two or more bytes whose first has bits 7 to 3 other than 01011 are refused as no address byte; a
byte after an address byte with R/W = 1 is refused; after a write address byte, a command byte with bits 1 to 0 other
than 00 is refused; a command byte whose address is none of the six is refused; at a reached address, opcode Write
without a data byte, any other opcode with a byte after the command byte, and any fourth byte are refused; Increment
or Decrement at 0x4 or 0xA is refused. Refusing by name, and which name where several reasons hold, is the model's
choice (log 17), as is the row that bits of several rows name (log 6); that the helpers refuse is the spec's decision
D16 (log 21). -/
def Obligations.ForeignBytesAreRefusedByName : Prop :=
  decode (.bytes []) = .error .empty ∧
  (∀ a : Nibble, isReachedAddress a = false → decode (.nibble a) = .error .nibbleNotResolved) ∧
  (∀ b : Byte, b.extractLsb' 3 5 ≠ 0b01011#5 → b.extractLsb' 0 2 ≠ 0b00#2 →
    decode (.bytes [b]) = .error .notAByteOfTheBlock) ∧
  (∀ b : Byte, (b.extractLsb' 3 5 = 0b01011#5 ∨ b.extractLsb' 0 2 = 0b00#2) → ∃ i, decode (.bytes [b]) = .ok i) ∧
  (∀ sel : Fin 4, decode (.bytes [addressWrite sel]) = .ok (.addrByte (sel.val : Int) .write)) ∧
  (∀ (b0 b1 : Byte) (tail : List Byte), b0.extractLsb' 3 5 ≠ 0b01011#5 →
    decode (.bytes (b0 :: b1 :: tail)) = .error .notAnAddressByte) ∧
  (∀ (sel : Fin 4) (b1 : Byte) (tail : List Byte),
    decode (.bytes ((addressWrite sel ||| 0x01) :: b1 :: tail)) = .error .byteAfterReadRequest) ∧
  (∀ (sel : Fin 4) (b1 : Byte) (tail : List Byte), b1.extractLsb' 0 2 ≠ 0b00#2 →
    decode (.bytes (addressWrite sel :: b1 :: tail)) = .error .commandLowBitsSet) ∧
  (∀ (sel : Fin 4) (a : Nibble) (opc : BitVec 2) (tail : List Byte), isReachedAddress a = false →
    decode (.bytes (addressWrite sel :: (a ++ opc ++ 0b00#2 : Byte) :: tail)) = .error .addressNotReached) ∧
  (∀ (sel : Fin 4) (a : Nibble), isReachedAddress a = true →
    decode (.bytes [addressWrite sel, (a ++ 0b00#2 ++ 0b00#2 : Byte)]) = .error .missingData) ∧
  (∀ (sel : Fin 4) (a : Nibble) (opc : BitVec 2) (d : Byte), isReachedAddress a = true → opc ≠ 0b00#2 →
    decode (.bytes [addressWrite sel, (a ++ opc ++ 0b00#2 : Byte), d]) = .error .trailingByte) ∧
  (∀ (sel : Fin 4) (a : Nibble) (opc : BitVec 2) (d d' : Byte) (tail : List Byte), isReachedAddress a = true →
    decode (.bytes (addressWrite sel :: (a ++ opc ++ 0b00#2 : Byte) :: d :: d' :: tail)) = .error .trailingByte) ∧
  (∀ (sel : Fin 4) (a : Nibble) (opc : BitVec 2), (a = 0x4 ∨ a = 0xA) → (opc = 0b01#2 ∨ opc = 0b10#2) →
    decode (.bytes [addressWrite sel, (a ++ opc ++ 0b00#2 : Byte)]) = .error .tconNotCounted)

/-- Derived (R147, R143, R144). For every selector in [0,3] and direction, decoding the encoded address byte gives
both back; for every byte that decodeAddressByte accepts (exactly 0x58 to 0x5F), encoding what it decodes to gives the
byte back; for every operation and nibble, decoding the encoded command byte gives the nibble and the operation's
opcode. The helpers are the spec's decision D16. -/
def Obligations.ByteHelpersRoundTrip : Prop :=
  (∀ (sel : Fin 4) (d : Direction), ∃ b, encodeAddressByte (sel.val : Int) d = .ok b ∧
    decodeAddressByte b = some (BitVec.ofNat 2 sel.val, d)) ∧
  (∀ b : Byte, (0x58 ≤ b.toNat ∧ b.toNat ≤ 0x5F) ↔
    ∃ sel d, decodeAddressByte b = some (sel, d) ∧ encodeAddressByte (sel.toNat : Int) d = .ok b) ∧
  (∀ b : Byte, ¬(0x58 ≤ b.toNat ∧ b.toNat ≤ 0x5F) → decodeAddressByte b = none) ∧
  (∀ (op : Operation) (a : Nibble), ∃ b, encodeCommand (some op) a = .ok b ∧
    decodeCommandByte b = some (a, op.opcode))

/-- Derived (R145, R71). For every call of buildFrame that gives a frame: decodeFrame of its bytes gives the selector,
direction Write, the resolved address and the operation's opcode, and the data byte for the writes and none otherwise;
the read-request frame gives the selector, Read and nothing else; and whatever bytes follow it in a stream, the
frame's length is read off its first bytes. decodeFrame is the spec's decision D16 (log 21), and R71 is marked as
derived by the spec. -/
def Obligations.DecodeFrameReadsBuiltFrames : Prop :=
  (∀ (sel index : Int) (op : Operation) (data : Option Byte) (f : Frame), buildFrame sel (some op) index data = .ok f →
    ∃ a, resolveIndex op index = .ok a ∧
      decodeFrame f.bytes = some ⟨BitVec.ofInt 2 sel, .write, some (a, op.opcode), data⟩ ∧
      ∀ more, streamFrameLength (f.bytes ++ more) = some f.bytes.length) ∧
  (∀ (sel : Int) (f : Frame), readRequest sel = .ok f →
    decodeFrame f.bytes = some ⟨BitVec.ofInt 2 sel, .read, none, none⟩ ∧
      ∀ more, streamFrameLength (f.bytes ++ more) = some f.bytes.length)

/-- Derived (R71, R64, R44). For every list of legal frames, of any kinds in any order, cutting the concatenation of
their bytes by the length rule of R71 gives back that list of frames. R71 is marked as derived by the spec. -/
def Obligations.StreamOfFramesSplitsUniquely : Prop :=
  ∀ fs : List Frame, (∀ f ∈ fs, f.legal = true) → splitStream (byteStream fs) = some fs

/-- Derived (30_encoding.md section 4, 95_test_vectors.md section 2). Words of spec/opcode_table.json with operands
filled in, one of each family: 0b01011100 is ADDR_BYTE 2 Write; 0b01011111 is RDREQ 3; 0b00010100 is CMD_INC 0x1;
0b11111100 is CMD_RD 0xF; 0b0101101001100100 is INC.W2 on device 1; 0b0101111000001000 is DEC.W0 on device 3;
0b010110000111000001111111 is WRW.W3 on device 0 with data 0x7F; 0b010111001010000011111111 is WRR.T23 on device 2
with data 0xFF; 0b0101110000011100 is RDW.W1 on device 2; 0b0101100001001100 is RDR.T01 on device 0; the nibble 0b0110
is RESOLVE_WIPER 2. How a word is numbered (its most significant byte is the byte sent first; 4 bits are a resolver's
address) is read from the table's columns (log 5, deduced). That 0x5C names ADDR_BYTE, 0x5F RDREQ, 0xFC the wiper
variant of CMD_RD and a frame its concrete row is the model's choice (log 6). -/
def Obligations.TableWordsDecode : Prop :=
  decodeTableWord 8 0b01011100 = some (.addrByte 2 .write) ∧
  decodeTableWord 8 0b01011111 = some (.rdreq 3) ∧
  decodeTableWord 8 0b00010100 = some (.cmdInc 0x1) ∧
  decodeTableWord 8 0b11111100 = some (.cmdRd .wiper 0xF) ∧
  decodeTableWord 16 0b0101101001100100 = some (.incW2 1 none) ∧
  decodeTableWord 16 0b0101111000001000 = some (.decW0 3 none) ∧
  decodeTableWord 24 0b010110000111000001111111 = some (.wrwW3 0 (some 0x7F)) ∧
  decodeTableWord 24 0b010111001010000011111111 = some (.wrrT23 2 (some 0xFF)) ∧
  decodeTableWord 16 0b0101110000011100 = some (.rdwW1 2 none) ∧
  decodeTableWord 16 0b0101100001001100 = some (.rdrT01 0 none) ∧
  decodeTableWord 4 0b0110 = some (.resolveWiper 2)

/-- Derived (R150, R79). For every selector and index in [0,3]: READ_WIPER_TXN is the frame [0x58 | (s << 1),
(WIPER_ADDR[c] << 4) | 0x0C], a restart, and the frame [0x58 | (s << 1) | 1]; READ_REGISTER_TXN the same with
CTRL_ADDR[r]. With a selector or index outside [0,3] both are the error set with OutOfRange alone and no item. The
restart is the transport's. R150 marks its sentence on errors as derived and gives no joined error set: that the
transaction reports the errors of its first failing call is read from it (log 20, deduced). -/
def Obligations.ReadTransactionIsWriteRestartRequest : Prop :=
  (∀ sel i : Fin 4, readWiperTxn (sel.val : Int) (i.val : Int) =
    .ok [.frame (.command (addressWrite sel) ((wiper i).setWidth 8 <<< 4 ||| 0x0C)), .restart,
      .frame (.addressOnly (addressWrite sel ||| 0x01))]) ∧
  (∀ sel i : Fin 4, readRegisterTxn (sel.val : Int) (i.val : Int) =
    .ok [.frame (.command (addressWrite sel) ((control i).setWidth 8 <<< 4 ||| 0x0C)), .restart,
      .frame (.addressOnly (addressWrite sel ||| 0x01))]) ∧
  (∀ sel i : Int, (bad sel ∨ bad i) →
    readWiperTxn sel i = .error ⟨true, false⟩ ∧ readRegisterTxn sel i = .error ⟨true, false⟩)

/-- Derived (R150, R151, R153). For every state and every operands for which the transaction exists: two steps over
the calls of READ_WIPER_TXN (of READ_REGISTER_TXN) answer a next state whose observed frames are the earlier ones
followed by the frames of the transaction; and a write, increment or decrement transaction is the single frame its
call puts out. -/
def Obligations.TransactionCallsGiveItsFrames : Prop :=
  (∀ (s : State) (sel i : Int) (items : List BusItem), readWiperTxn sel i = .ok items →
    ∃ t, Sys2Proof.core.run 2 ({ s with pending := readWiperCalls sel i } : State) = .next t ∧
      framesOf (State.observed t) = framesOf s.observed ++ framesOfItems items) ∧
  (∀ (s : State) (sel i : Int) (items : List BusItem), readRegisterTxn sel i = .ok items →
    ∃ t, Sys2Proof.core.run 2 ({ s with pending := readRegisterCalls sel i } : State) = .next t ∧
      framesOf (State.observed t) = framesOf s.observed ++ framesOfItems items) ∧
  (∀ (s : State) (sel i : Int) (op : Operation) (data : Option Byte) (items : List BusItem),
    frameTxn sel op i data = .ok items →
    ∃ t, exec (frameInstr op sel i data) s = .next t ∧ framesOf t.observed = framesOf s.observed ++ framesOfItems items ∧
      items.length = 1)

/-- Derived (R94, R100, R110, R112, R140, R74). For every width w: on an index input of value 0, 1, 2, 3 wiper_addr is
0x0, 0x1, 0x6, 0x7, ctrl_addr is 0x4, 0x4, 0xA, 0xA, and addr_byte is 0x58 | (s << 1) with direction 0 and 0x58 | (s
<< 1) | 1 with direction 1, each with its error wire 0; above 3 the error wire of each is 1. For every memory address
a: on operation codes 0 to 5 cmd_byte is (a << 4) | 0x04, 0x08, 0x00, 0x00, 0x0C, 0x0C with err_invalid_operation 0,
and on codes 6 and 7 err_invalid_operation is 1. Ports, codes and wires are the spec's decisions D2 to D7, the opcodes
D15 (log 21). Nothing is said of a result output under error, which is padding (log 19). -/
def Obligations.LeafOutputsShowTheirResults : Prop :=
  (∀ (w : Nat) (x : BitVec w) (k : Fin 4), x.toNat = k.val →
    (RawWiperIn.pins ⟨x⟩).out = ⟨wiper k, 0⟩ ∧ (RawControlIn.pins ⟨x⟩).out = ⟨control k, 0⟩ ∧
    (RawAddressIn.pins ⟨x, 0⟩).out = ⟨addressWrite k, 0⟩ ∧ (RawAddressIn.pins ⟨x, 1⟩).out = ⟨addressWrite k ||| 0x01, 0⟩) ∧
  (∀ (w : Nat) (x : BitVec w) (d : BitVec 1), 3 < x.toNat →
    (RawWiperIn.pins ⟨x⟩).out.errOutOfRange = 1 ∧ (RawControlIn.pins ⟨x⟩).out.errOutOfRange = 1 ∧
    (RawAddressIn.pins ⟨x, d⟩).out.errOutOfRange = 1) ∧
  (∀ a : Nibble,
    (CommandPins.out ⟨0, a⟩) = ⟨a.setWidth 8 <<< 4 ||| 0x04, 0⟩ ∧ (CommandPins.out ⟨1, a⟩) = ⟨a.setWidth 8 <<< 4 ||| 0x08, 0⟩ ∧
    (CommandPins.out ⟨2, a⟩) = ⟨a.setWidth 8 <<< 4, 0⟩ ∧ (CommandPins.out ⟨3, a⟩) = ⟨a.setWidth 8 <<< 4, 0⟩ ∧
    (CommandPins.out ⟨4, a⟩) = ⟨a.setWidth 8 <<< 4 ||| 0x0C, 0⟩ ∧ (CommandPins.out ⟨5, a⟩) = ⟨a.setWidth 8 <<< 4 ||| 0x0C, 0⟩ ∧
    (CommandPins.out ⟨6, a⟩).errInvalidOperation = 1 ∧ (CommandPins.out ⟨7, a⟩).errInvalidOperation = 1)

/-- Derived (R140, R142, R184, R74, R75, R103). For every instruction and every state: it answers a next state with
the same pending calls, in which its port group carries its operands with the operation code of R74 or the direction
of R75, and every other group carries what it carried. RDREQ drives the address-byte group with direction Read (log
15, deduced); CMD_WR and CMD_RD drive the code of their variant (log 16, deduced); a concrete row drives the frame
group with its operation and its index, the rows T01 and T23 the lower index 0 or 2 (log 18, the model's choice). That
the values are held is the model's picture (log 1 and log 11); the codes are the spec's decisions D4 and D6. -/
def Obligations.EveryInstructionDrivesExactlyItsPins : Prop :=
  ∀ (i : Instr) (s : State), ∃ t, exec i s = .next t ∧ t.ports = pinsAfter i s.ports ∧ t.pending = s.pending

/-- Derived (R145, R64, R143, R144). For every list of bytes: decodeFrame gives fields if and only if the list is one
address byte with R/W = 1; or an address byte with R/W = 0 and a command byte whose opcode is not 00; or an address
byte with R/W = 0, a command byte with opcode 00 and one byte more. Every other length and every other byte is
refused, a write address byte alone among them; any address nibble is accepted. decodeFrame is the spec's decision D16
(log 21). -/
def Obligations.DecodeFrameAcceptsExactlyTheFormats : Prop :=
  ∀ bs : List Byte, (∃ d, decodeFrame bs = some d) ↔
    (∃ b0, bs = [b0] ∧ b0.extractLsb' 3 5 = 0b01011#5 ∧ b0.extractLsb' 0 1 = 1#1) ∨
    (∃ b0 b1, bs = [b0, b1] ∧ b0.extractLsb' 3 5 = 0b01011#5 ∧ b0.extractLsb' 0 1 = 0#1 ∧
      b1.extractLsb' 0 2 = 0b00#2 ∧ b1.extractLsb' 2 2 ≠ 0b00#2) ∨
    (∃ b0 b1 b2, bs = [b0, b1, b2] ∧ b0.extractLsb' 3 5 = 0b01011#5 ∧ b0.extractLsb' 0 1 = 0#1 ∧
      b1.extractLsb' 0 2 = 0b00#2 ∧ b1.extractLsb' 2 2 = 0b00#2)
end

