-- ==== Sys2Proof/Laws/Operands.lean ====
section
/-! SUPPORT. The small lemmas of the operand forms: the range check, the port codes, the target map. -/

namespace Sys2Proof

/-- The range check fails exactly on the valid domain (R25, R161). -/
theorem indexOutOfRange_eq_false_iff {v : Int} : indexOutOfRange v = false ↔ 0 ≤ v ∧ v ≤ 3 := by
  simp [indexOutOfRange]

theorem indexOutOfRange_eq_true_iff {v : Int} : indexOutOfRange v = true ↔ v < 0 ∨ 3 < v := by
  simp [indexOutOfRange]

/-- Well-formedness asks of an index what its range check asks (R25, R161). -/
theorem indexValid_eq_not_outOfRange (v : Int) : indexValid v = !indexOutOfRange v := by
  rw [Bool.eq_iff_iff]
  simp [indexValid, indexOutOfRange]

/-- A valid index is one of four. -/
theorem index_cases {v : Int} (h : 0 ≤ v ∧ v ≤ 3) : v = 0 ∨ v = 1 ∨ v = 2 ∨ v = 3 := by omega

/-- A port code names back the operation it is the code of (R74). -/
@[simp] theorem operationOfCode_code (op : Operation) : operationOfCode op.code = some op := by
  cases op <;> rfl

/-- The code of the operation that a port code names is that port code (R74). -/
theorem code_of_operationOfCode {c : BitVec 3} {op : Operation} (h : operationOfCode c = some op) : op.code = c := by
  revert c op; decide

/-- Only 6 and 7 are reserved (R76). -/
theorem operationOfCode_eq_none_iff {c : BitVec 3} : operationOfCode c = none ↔ c = 6 ∨ c = 7 := by
  revert c; decide

@[simp] theorem ofBit_bit (d : Direction) : Direction.ofBit d.bit = d := by cases d <;> rfl

@[simp] theorem bit_ofBit (b : BitVec 1) : (Direction.ofBit b).bit = b := by
  revert b; decide

/-- A wiper operation's command goes through the wiper table and a register operation's through the other (R122). -/
@[simp] theorem writeOperation_indexClass (c : IndexClass) : c.writeOperation.indexClass = c := by cases c <;> rfl

@[simp] theorem readOperation_indexClass (c : IndexClass) : c.readOperation.indexClass = c := by cases c <;> rfl

end Sys2Proof
end

