-- ==== Sys2Proof/Laws/State.lean ====
section
/-! SUPPORT. One lemma per field per update of State, so that no later proof unfolds a record update. -/

namespace Sys2Proof.Machine

variable (s : State)

@[simp] theorem observe_ports (o : Observation) : (s.observe o).ports = s.ports := rfl
@[simp] theorem observe_pending (o : Observation) : (s.observe o).pending = s.pending := rfl
@[simp] theorem observe_observed (o : Observation) : (s.observe o).observed = s.observed ++ [o] := rfl

@[simp] theorem driveRw_rw (p : WiperPins) : (s.driveRw p).ports.rw = some p := rfl
@[simp] theorem driveRw_rc (p : WiperPins) : (s.driveRw p).ports.rc = s.ports.rc := rfl
@[simp] theorem driveRw_ab (p : WiperPins) : (s.driveRw p).ports.ab = s.ports.ab := rfl
@[simp] theorem driveRw_ec (p : WiperPins) : (s.driveRw p).ports.ec = s.ports.ec := rfl
@[simp] theorem driveRw_bf (p : WiperPins) : (s.driveRw p).ports.bf = s.ports.bf := rfl
@[simp] theorem driveRw_pending (p : WiperPins) : (s.driveRw p).pending = s.pending := rfl
@[simp] theorem driveRw_observed (p : WiperPins) : (s.driveRw p).observed = s.observed := rfl

@[simp] theorem driveRc_rw (p : ControlPins) : (s.driveRc p).ports.rw = s.ports.rw := rfl
@[simp] theorem driveRc_rc (p : ControlPins) : (s.driveRc p).ports.rc = some p := rfl
@[simp] theorem driveRc_ab (p : ControlPins) : (s.driveRc p).ports.ab = s.ports.ab := rfl
@[simp] theorem driveRc_ec (p : ControlPins) : (s.driveRc p).ports.ec = s.ports.ec := rfl
@[simp] theorem driveRc_bf (p : ControlPins) : (s.driveRc p).ports.bf = s.ports.bf := rfl
@[simp] theorem driveRc_pending (p : ControlPins) : (s.driveRc p).pending = s.pending := rfl
@[simp] theorem driveRc_observed (p : ControlPins) : (s.driveRc p).observed = s.observed := rfl

@[simp] theorem driveAb_rw (p : AddressPins) : (s.driveAb p).ports.rw = s.ports.rw := rfl
@[simp] theorem driveAb_rc (p : AddressPins) : (s.driveAb p).ports.rc = s.ports.rc := rfl
@[simp] theorem driveAb_ab (p : AddressPins) : (s.driveAb p).ports.ab = some p := rfl
@[simp] theorem driveAb_ec (p : AddressPins) : (s.driveAb p).ports.ec = s.ports.ec := rfl
@[simp] theorem driveAb_bf (p : AddressPins) : (s.driveAb p).ports.bf = s.ports.bf := rfl
@[simp] theorem driveAb_pending (p : AddressPins) : (s.driveAb p).pending = s.pending := rfl
@[simp] theorem driveAb_observed (p : AddressPins) : (s.driveAb p).observed = s.observed := rfl

@[simp] theorem driveEc_rw (p : CommandPins) : (s.driveEc p).ports.rw = s.ports.rw := rfl
@[simp] theorem driveEc_rc (p : CommandPins) : (s.driveEc p).ports.rc = s.ports.rc := rfl
@[simp] theorem driveEc_ab (p : CommandPins) : (s.driveEc p).ports.ab = s.ports.ab := rfl
@[simp] theorem driveEc_ec (p : CommandPins) : (s.driveEc p).ports.ec = some p := rfl
@[simp] theorem driveEc_bf (p : CommandPins) : (s.driveEc p).ports.bf = s.ports.bf := rfl
@[simp] theorem driveEc_pending (p : CommandPins) : (s.driveEc p).pending = s.pending := rfl
@[simp] theorem driveEc_observed (p : CommandPins) : (s.driveEc p).observed = s.observed := rfl

@[simp] theorem driveBf_rw (p : FramePins) : (s.driveBf p).ports.rw = s.ports.rw := rfl
@[simp] theorem driveBf_rc (p : FramePins) : (s.driveBf p).ports.rc = s.ports.rc := rfl
@[simp] theorem driveBf_ab (p : FramePins) : (s.driveBf p).ports.ab = s.ports.ab := rfl
@[simp] theorem driveBf_ec (p : FramePins) : (s.driveBf p).ports.ec = s.ports.ec := rfl
@[simp] theorem driveBf_bf (p : FramePins) : (s.driveBf p).ports.bf = some p := rfl
@[simp] theorem driveBf_pending (p : FramePins) : (s.driveBf p).pending = s.pending := rfl
@[simp] theorem driveBf_observed (p : FramePins) : (s.driveBf p).observed = s.observed := rfl

variable (nbits w : Nat)

@[simp] theorem withFetchWord_ports : (s.withFetchWord nbits w).ports = s.ports := rfl
@[simp] theorem withFetchWord_pending :
    (s.withFetchWord nbits w).pending = .emitted (emissionOfTableWord nbits w) :: s.pending := rfl
@[simp] theorem withFetchWord_observed : (s.withFetchWord nbits w).observed = s.observed := rfl

@[simp] theorem reset_ports : State.reset.ports = .undriven := rfl
@[simp] theorem reset_pending : State.reset.pending = [] := rfl
@[simp] theorem reset_observed : State.reset.observed = [] := rfl

end Sys2Proof.Machine
end

