-- ==== Sys2Proof/Laws/Ops.lean ====
section
/-! SUPPORT. One lemma per shared operation that says everything it can do. -/

namespace Sys2Proof.Machine

/-! ### Error sets -/

@[simp] theorem union_outOfRange (a b : ErrorSet) : (a.union b).outOfRange = (a.outOfRange || b.outOfRange) := rfl
@[simp] theorem union_invalidOperation (a b : ErrorSet) :
    (a.union b).invalidOperation = (a.invalidOperation || b.invalidOperation) := rfl

theorem errorSet_ext {a b : ErrorSet} (h : a.outOfRange = b.outOfRange)
    (h' : a.invalidOperation = b.invalidOperation) : a = b := by
  cases a; cases b; simp_all

/-- The two wires of a call with a named operation (R123). -/
theorem frameErrors_some (selector index : Int) (op : Operation) (data : Option Byte) :
    frameErrors selector (some op) index data =
      ⟨indexOutOfRange selector || indexOutOfRange index, op.needsData != data.isSome⟩ := by
  apply errorSet_ext <;>
    cases hs : indexOutOfRange selector <;> cases hi : indexOutOfRange index <;>
      cases hd : (op.needsData != data.isSome) <;>
        simp [frameErrors, rangeErrors, dataErrors, ErrorSet.when, ErrorSet.single, ErrorSet.empty, hs, hi, hd]

/-- The two wires of a call with a reserved operation code (R133). -/
theorem frameErrors_none (selector index : Int) (data : Option Byte) :
    frameErrors selector none index data = ⟨indexOutOfRange selector, true⟩ := by
  apply errorSet_ext <;>
    cases hs : indexOutOfRange selector <;>
      simp [frameErrors, rangeErrors, ErrorSet.when, ErrorSet.single, ErrorSet.empty, hs]

/-! ### The five functions -/

theorem resolveWiperAddress_of_valid {c : Int} (h : indexOutOfRange c = false) :
    resolveWiperAddress c = .ok (wiperAddress (indexBits c)) := by simp [resolveWiperAddress, h]

theorem resolveWiperAddress_of_bad {c : Int} (h : indexOutOfRange c = true) :
    resolveWiperAddress c = .error ⟨true, false⟩ := by simp [resolveWiperAddress, h, ErrorSet.single]

theorem resolveControlAddress_of_valid {r : Int} (h : indexOutOfRange r = false) :
    resolveControlAddress r = .ok (controlAddress (indexBits r)) := by simp [resolveControlAddress, h]

theorem resolveControlAddress_of_bad {r : Int} (h : indexOutOfRange r = true) :
    resolveControlAddress r = .error ⟨true, false⟩ := by simp [resolveControlAddress, h, ErrorSet.single]

theorem encodeAddressByte_of_valid {sel : Int} (d : Direction) (h : indexOutOfRange sel = false) :
    encodeAddressByte sel d = .ok (addressByte (indexBits sel) d) := by simp [encodeAddressByte, h]

theorem encodeAddressByte_of_bad {sel : Int} (d : Direction) (h : indexOutOfRange sel = true) :
    encodeAddressByte sel d = .error ⟨true, false⟩ := by simp [encodeAddressByte, h, ErrorSet.single]

/-- The address of an operation's index, already checked (R122). -/
def operationAddress (op : Operation) (index : BitVec 2) : Nibble :=
  match op.indexClass with
  | .wiper => wiperAddress index
  | .control => controlAddress index

theorem resolveIndex_of_valid (op : Operation) {index : Int} (h : indexOutOfRange index = false) :
    resolveIndex op index = .ok (operationAddress op (indexBits index)) := by
  cases hc : op.indexClass <;>
    simp [resolveIndex, operationAddress, hc, resolveWiperAddress_of_valid h, resolveControlAddress_of_valid h]

/-- A valid call of a non-write operation gives a two-byte frame. -/
theorem buildFrame_without_data {selector index : Int} {op : Operation} (hs : indexOutOfRange selector = false)
    (hi : indexOutOfRange index = false) (hd : op.needsData = false) :
    buildFrame selector (some op) index none =
      .ok (.command (addressByte (indexBits selector) .write)
        (commandByte (operationAddress op (indexBits index)) op.opcode)) := by
  simp [buildFrame, frameErrors_some, hs, hi, hd, ErrorSet.isEmpty, composeFrame, encodeAddressByte_of_valid _ hs,
    resolveIndex_of_valid op hi, encodeCommand, dataPhase, bind, Except.bind]

/-- A valid call of a write operation gives a three-byte frame. -/
theorem buildFrame_with_data {selector index : Int} {op : Operation} (d : Byte) (hs : indexOutOfRange selector = false)
    (hi : indexOutOfRange index = false) (hd : op.needsData = true) :
    buildFrame selector (some op) index (some d) =
      .ok (.commandData (addressByte (indexBits selector) .write)
        (commandByte (operationAddress op (indexBits index)) op.opcode) d) := by
  simp [buildFrame, frameErrors_some, hs, hi, hd, ErrorSet.isEmpty, composeFrame, encodeAddressByte_of_valid _ hs,
    resolveIndex_of_valid op hi, encodeCommand, dataPhase, bind, Except.bind]

/-- A call with an error gives exactly its error set and no frame. -/
theorem buildFrame_of_errors {selector index : Int} {operation : Option Operation} {data : Option Byte}
    (h : (frameErrors selector operation index data).isEmpty = false) :
    buildFrame selector operation index data = .error (frameErrors selector operation index data) := by
  simp [buildFrame, h]

/-- Everything a successful call says of its inputs and its frame: the inversion of `buildFrame`. -/
theorem buildFrame_ok_cases {selector index : Int} {operation : Option Operation} {data : Option Byte} {f : Frame}
    (h : buildFrame selector operation index data = .ok f) :
    ∃ op, operation = some op ∧ indexOutOfRange selector = false ∧ indexOutOfRange index = false ∧
      ((op.needsData = false ∧ data = none ∧
          f = .command (addressByte (indexBits selector) .write)
            (commandByte (operationAddress op (indexBits index)) op.opcode)) ∨
        (op.needsData = true ∧ ∃ d, data = some d ∧
          f = .commandData (addressByte (indexBits selector) .write)
            (commandByte (operationAddress op (indexBits index)) op.opcode) d)) := by
  cases operation with
  | none => simp [buildFrame, frameErrors_none, ErrorSet.isEmpty] at h
  | some op =>
    refine ⟨op, rfl, ?_⟩
    by_cases he : (frameErrors selector (some op) index data).isEmpty = false
    · rw [buildFrame_of_errors he] at h
      cases h
    · simp only [frameErrors_some, ErrorSet.isEmpty] at he
      simp only [Bool.not_eq_false, Bool.and_eq_true, Bool.not_eq_true', Bool.or_eq_false_iff,
        bne_eq_false_iff_eq] at he
      obtain ⟨⟨hs, hi⟩, hd⟩ := he
      refine ⟨hs, hi, ?_⟩
      cases data with
      | none =>
        rw [buildFrame_without_data hs hi hd] at h
        cases h
        exact .inl ⟨hd, rfl, rfl⟩
      | some d =>
        rw [buildFrame_with_data d hs hi hd] at h
        cases h
        exact .inr ⟨hd, d, rfl, rfl⟩

/-- The read-request frame of a valid selector. -/
theorem readRequest_of_valid {sel : Int} (h : indexOutOfRange sel = false) :
    readRequest sel = .ok (.addressOnly (addressByte (indexBits sel) .read)) := by
  simp [readRequest, encodeAddressByte_of_valid _ h, Except.map]

theorem readRequest_of_bad {sel : Int} (h : indexOutOfRange sel = true) : readRequest sel = .error ⟨true, false⟩ := by
  simp [readRequest, encodeAddressByte_of_bad _ h, Except.map]

/-! ### Calls -/

/-- A call always ends, with one outcome more. -/
theorem finish_eq (r : Except ErrorSet Observation) (s : State) : finish r s = .next (s.observe (outcomeOf r)) := by
  cases r <;> rfl

/-- The pins an instruction drives. -/
def drivenBy : Instr → State → State
  | .resolveWiper c, s => s.driveRw ⟨c⟩
  | .resolveControl r, s => s.driveRc ⟨r⟩
  | .addrByte sel d, s => s.driveAb ⟨sel, d.bit⟩
  | .cmdWr v a, s => s.driveEc ⟨v.writeOperation.code, a⟩
  | .cmdInc a, s => s.driveEc ⟨0, a⟩
  | .cmdDec a, s => s.driveEc ⟨1, a⟩
  | .cmdRd v a, s => s.driveEc ⟨v.readOperation.code, a⟩
  | .rdreq sel, s => s.driveAb ⟨sel, 1⟩
  | .inc sel c d, s => s.driveBf ⟨sel, 0, c, d⟩
  | .dec sel c d, s => s.driveBf ⟨sel, 1, c, d⟩
  | .wrw sel c d, s => s.driveBf ⟨sel, 2, c, d⟩
  | .wrr sel r d, s => s.driveBf ⟨sel, 3, r, d⟩
  | .rdw sel c d, s => s.driveBf ⟨sel, 4, c, d⟩
  | .rdr sel r d, s => s.driveBf ⟨sel, 5, r, d⟩
  | .incW0 sel d, s => s.driveBf ⟨sel, 0, 0, d⟩
  | .incW1 sel d, s => s.driveBf ⟨sel, 0, 1, d⟩
  | .incW2 sel d, s => s.driveBf ⟨sel, 0, 2, d⟩
  | .incW3 sel d, s => s.driveBf ⟨sel, 0, 3, d⟩
  | .decW0 sel d, s => s.driveBf ⟨sel, 1, 0, d⟩
  | .decW1 sel d, s => s.driveBf ⟨sel, 1, 1, d⟩
  | .decW2 sel d, s => s.driveBf ⟨sel, 1, 2, d⟩
  | .decW3 sel d, s => s.driveBf ⟨sel, 1, 3, d⟩
  | .wrwW0 sel d, s => s.driveBf ⟨sel, 2, 0, d⟩
  | .wrwW1 sel d, s => s.driveBf ⟨sel, 2, 1, d⟩
  | .wrwW2 sel d, s => s.driveBf ⟨sel, 2, 2, d⟩
  | .wrwW3 sel d, s => s.driveBf ⟨sel, 2, 3, d⟩
  | .rdwW0 sel d, s => s.driveBf ⟨sel, 4, 0, d⟩
  | .rdwW1 sel d, s => s.driveBf ⟨sel, 4, 1, d⟩
  | .rdwW2 sel d, s => s.driveBf ⟨sel, 4, 2, d⟩
  | .rdwW3 sel d, s => s.driveBf ⟨sel, 4, 3, d⟩
  | .wrrT01 sel d, s => s.driveBf ⟨sel, 3, 0, d⟩
  | .wrrT23 sel d, s => s.driveBf ⟨sel, 3, 2, d⟩
  | .rdrT01 sel d, s => s.driveBf ⟨sel, 5, 0, d⟩
  | .rdrT23 sel d, s => s.driveBf ⟨sel, 5, 2, d⟩

/-- The result of a frame call, as an observation. -/
abbrev frameOutcome (selector : Int) (op : Operation) (index : Int) (data : Option Byte) : Observation :=
  outcomeOf ((buildFrame selector (some op) index data).map .frame)

/-- The outcome of an instruction: it does not depend on the state (R146). -/
def outcomeBy : Instr → Observation
  | .resolveWiper c => outcomeOf ((resolveWiperAddress c).map .address)
  | .resolveControl r => outcomeOf ((resolveControlAddress r).map .address)
  | .addrByte sel d => outcomeOf ((encodeAddressByte sel d).map .byte)
  | .cmdWr v a => outcomeOf ((encodeCommand (some v.writeOperation) a).map .byte)
  | .cmdInc a => outcomeOf ((encodeCommand (some .increment) a).map .byte)
  | .cmdDec a => outcomeOf ((encodeCommand (some .decrement) a).map .byte)
  | .cmdRd v a => outcomeOf ((encodeCommand (some v.readOperation) a).map .byte)
  | .rdreq sel => outcomeOf ((readRequest sel).map .frame)
  | .inc sel c d => frameOutcome sel .increment c d
  | .dec sel c d => frameOutcome sel .decrement c d
  | .wrw sel c d => frameOutcome sel .writeWiper c d
  | .wrr sel r d => frameOutcome sel .writeRegister r d
  | .rdw sel c d => frameOutcome sel .readWiper c d
  | .rdr sel r d => frameOutcome sel .readRegister r d
  | .incW0 sel d => frameOutcome sel .increment 0 d
  | .incW1 sel d => frameOutcome sel .increment 1 d
  | .incW2 sel d => frameOutcome sel .increment 2 d
  | .incW3 sel d => frameOutcome sel .increment 3 d
  | .decW0 sel d => frameOutcome sel .decrement 0 d
  | .decW1 sel d => frameOutcome sel .decrement 1 d
  | .decW2 sel d => frameOutcome sel .decrement 2 d
  | .decW3 sel d => frameOutcome sel .decrement 3 d
  | .wrwW0 sel d => frameOutcome sel .writeWiper 0 d
  | .wrwW1 sel d => frameOutcome sel .writeWiper 1 d
  | .wrwW2 sel d => frameOutcome sel .writeWiper 2 d
  | .wrwW3 sel d => frameOutcome sel .writeWiper 3 d
  | .rdwW0 sel d => frameOutcome sel .readWiper 0 d
  | .rdwW1 sel d => frameOutcome sel .readWiper 1 d
  | .rdwW2 sel d => frameOutcome sel .readWiper 2 d
  | .rdwW3 sel d => frameOutcome sel .readWiper 3 d
  | .wrrT01 sel d => frameOutcome sel .writeRegister 0 d
  | .wrrT23 sel d => frameOutcome sel .writeRegister 2 d
  | .rdrT01 sel d => frameOutcome sel .readRegister 0 d
  | .rdrT23 sel d => frameOutcome sel .readRegister 2 d

/-- Everything an instruction can do: drive the pins of its port group and have its outcome observed. Proofs about `exec`
cite this and do not unfold the meanings. -/
theorem exec_eq (i : Instr) (s : State) : exec i s = .next ((drivenBy i s).observe (outcomeBy i)) := by
  cases i
  case addrByte sel d => cases d <;> exact finish_eq _ _
  case cmdWr v a => cases v <;> rfl
  case cmdRd v a => cases v <;> rfl
  case cmdInc a => rfl
  case cmdDec a => rfl
  all_goals exact finish_eq _ _

@[simp] theorem drivenBy_pending (i : Instr) (s : State) : (drivenBy i s).pending = s.pending := by cases i <;> rfl

@[simp] theorem drivenBy_observed (i : Instr) (s : State) : (drivenBy i s).observed = s.observed := by cases i <;> rfl

/-- An instruction answers a next state that has gained its outcome (R146). -/
theorem exec_observes (i : Instr) (s : State) :
    ∃ t, exec i s = .next t ∧ t.observed = s.observed ++ [outcomeBy i] := ⟨_, exec_eq i s, by simp⟩

/-! ### The step -/

/-- With no call pending the step changes nothing. -/
theorem step_of_idle {s : State} (h : s.pending = []) : step s = .next s := by simp [step, h]

/-- The step makes the next pending call. -/
theorem step_of_pending {s : State} {r : Request} {rest : List Request} (h : s.pending = r :: rest) :
    step s = runFetched (fetch r) { s with pending := rest } := by simp [step, h]

end Sys2Proof.Machine
end

