-- ==== Sys2Proof/Laws/Encoding.lean ====
section
/-! SUPPORT. What the bit patterns of the encoder are, byte by byte, in terms of the byte formulas of the machine, and what
decoding does on address and command bytes. -/

namespace Sys2Proof.Machine

/-- The low byte of bits with a byte appended is that byte. -/
theorem extract_low_of_append {n : Nat} (x : BitVec n) (d : Byte) : (x ++ d).extractLsb' 0 8 = d := by
  ext i hi
  simp [BitVec.getLsbD_append, hi]

/-- The other bytes are those of the bits before it. -/
theorem extract_high_of_append {n : Nat} (x : BitVec n) (d : Byte) (start : Nat) :
    (x ++ d).extractLsb' (start + 8) 8 = x.extractLsb' start 8 := by
  ext i hi
  simp only [BitVec.getElem_extractLsb', BitVec.getLsbD_append]
  rw [if_neg (by omega)]
  congr 1
  omega

/-- The address byte as the table's pattern. -/
theorem addressByte_eq_pattern (s : BitVec 2) (d : Direction) : addressByte s d = 0b01011#5 ++ s ++ d.bit := by
  cases d <;> (revert s; decide)

/-- The command byte as the table's pattern. -/
theorem commandByte_eq_pattern (a : Nibble) (opcode : BitVec 2) : commandByte a opcode = a ++ opcode ++ 0b00#2 := by
  revert a opcode; decide

theorem patternReadRequest_eq (s : BitVec 2) : patternReadRequest s = .bytes [addressByte s .read] := by
  revert s; decide

theorem patternInc_eq (s : BitVec 2) (a : Nibble) :
    patternInc s a = .bytes [addressByte s .write, commandByte a 0b01] := by revert s a; decide

theorem patternDec_eq (s : BitVec 2) (a : Nibble) :
    patternDec s a = .bytes [addressByte s .write, commandByte a 0b10] := by revert s a; decide

theorem patternRead_eq (s : BitVec 2) (a : Nibble) :
    patternRead s a = .bytes [addressByte s .write, commandByte a 0b11] := by revert s a; decide

theorem patternWrite_eq (s : BitVec 2) (a : Nibble) (d : Byte) :
    patternWrite s a d = .bytes [addressByte s .write, commandByte a 0b00, d] := by
  have h := extract_high_of_append (0b01011#5 ++ s ++ 0b0#1 ++ a ++ 0b0000#4) d
  have h8 := h 8
  have h0 := h 0
  have hd := extract_low_of_append (0b01011#5 ++ s ++ 0b0#1 ++ a ++ 0b0000#4) d
  simp only [patternWrite, pattern24, Emission.bytes.injEq, List.cons.injEq, and_true]
  refine ⟨h8.trans ?_, h0.trans ?_, hd⟩ <;> (clear h h8 h0 hd; revert s a; decide)

/-- Decoding an address byte gives its fields back. -/
@[simp] theorem decodeAddressByte_addressByte (s : BitVec 2) (d : Direction) :
    decodeAddressByte (addressByte s d) = some (s, d) := by
  cases d <;> (revert s; decide)

/-- Decoding a command byte gives its fields back. -/
@[simp] theorem decodeCommandByte_commandByte (a : Nibble) (opcode : BitVec 2) :
    decodeCommandByte (commandByte a opcode) = some (a, opcode) := by
  revert a opcode; decide

/-- A byte that decodes to address-byte fields is the address byte of those fields. -/
theorem eq_addressByte_of_decode {b : Byte} {s : BitVec 2} {d : Direction} (h : decodeAddressByte b = some (s, d)) :
    b = addressByte s d := by
  have key : ∀ b : Byte, ∀ p, decodeAddressByte b = some p → b = addressByte p.1 p.2 := by
    intro b p hp
    unfold decodeAddressByte at hp
    split at hp
    · cases hp
      revert b; decide
    · cases hp
  exact key b (s, d) h

/-- A byte that decodes to command-byte fields is the command byte of those fields. -/
theorem eq_commandByte_of_decode {b : Byte} {a : Nibble} {opcode : BitVec 2}
    (h : decodeCommandByte b = some (a, opcode)) : b = commandByte a opcode := by
  unfold decodeCommandByte at h
  split at h
  · cases h
    revert b; decide
  · cases h

/-- An instruction has an encoding exactly when it is well formed. -/
theorem encode_eq_some {i : Instr} {e : Emission} : encode i = some e ↔ i.wellFormed = true ∧ i.pattern = e := by
  unfold encode
  split <;> simp_all

/-- The map names a register at an address exactly when the register stands there (R43). -/
theorem targetAt_eq_some_iff {a : Nibble} {target : TargetRegister} :
    targetAt a = some target ↔ a = target.address := by
  cases target <;> (revert a; decide)

/-- Decoding a write address byte, a command byte and whatever follows. -/
theorem decode_addressByte_cons (s : BitVec 2) (b1 : Byte) (tail : List Byte) :
    decode (.bytes (addressByte s .write :: b1 :: tail)) = decodeCommandFrame s.toNat b1 tail := by
  simp [decode]

/-- The address of a target register names it. -/
@[simp] theorem targetAt_address (target : TargetRegister) : targetAt target.address = some target :=
  targetAt_eq_some_iff.2 rfl

/-- Decoding the rest of a frame at a target register: no byte after the command byte (R64). -/
theorem decodeCommandFrame_nil (selector : Int) (target : TargetRegister) (opcode : BitVec 2) :
    decodeCommandFrame selector (commandByte target.address opcode) [] = commandFrameAt selector opcode target := by
  simp [decodeCommandFrame]

/-- One byte after it: a write, or one byte too many (R64). -/
theorem decodeCommandFrame_single (selector : Int) (target : TargetRegister) (opcode : BitVec 2) (d : Byte) :
    decodeCommandFrame selector (commandByte target.address opcode) [d] =
      if opcode = 0b00 then .ok (writeAt selector d target) else .error .trailingByte := by
  simp [decodeCommandFrame]

/-- More bytes after it are always too many (R64). -/
theorem decodeCommandFrame_long (selector : Int) (target : TargetRegister) (opcode : BitVec 2) (d d' : Byte)
    (tail : List Byte) :
    decodeCommandFrame selector (commandByte target.address opcode) (d :: d' :: tail) = .error .trailingByte := by
  simp [decodeCommandFrame]

end Sys2Proof.Machine
end

