-- ==== Sys2Proof/Laws/PerInstr.lean ====
section
/-! SUPPORT. The family EncodeLength: the number of bits an instruction is encoded in is the "width_bits" of its row in
spec/opcode_table.json. -/

namespace Sys2Proof.Laws.EncodeLength

/-- The "width_bits" of the instruction's row. -/
def tableWidth : Instr → Nat
  | .resolveWiper _ => 4
  | .resolveControl _ => 4
  | .addrByte _ _ => 8
  | .cmdWr _ _ => 8
  | .cmdInc _ => 8
  | .cmdDec _ => 8
  | .cmdRd _ _ => 8
  | .rdreq _ => 8
  | .inc _ _ _ => 16
  | .dec _ _ _ => 16
  | .wrw _ _ _ => 24
  | .wrr _ _ _ => 24
  | .rdw _ _ _ => 16
  | .rdr _ _ _ => 16
  | .incW0 _ _ => 16
  | .incW1 _ _ => 16
  | .incW2 _ _ => 16
  | .incW3 _ _ => 16
  | .decW0 _ _ => 16
  | .decW1 _ _ => 16
  | .decW2 _ _ => 16
  | .decW3 _ _ => 16
  | .wrwW0 _ _ => 24
  | .wrwW1 _ _ => 24
  | .wrwW2 _ _ => 24
  | .wrwW3 _ _ => 24
  | .rdwW0 _ _ => 16
  | .rdwW1 _ _ => 16
  | .rdwW2 _ _ => 16
  | .rdwW3 _ _ => 16
  | .wrrT01 _ _ => 24
  | .wrrT23 _ _ => 24
  | .rdrT01 _ _ => 16
  | .rdrT23 _ _ => 16

/-- Every encoding of the instruction has as many bits as its row says. -/
def Statement (i : Instr) : Prop := ∀ e, encode i = some e → e.bitCount = tableWidth i

theorem of_pattern {i : Instr} (h : i.pattern.bitCount = tableWidth i) : Statement i := by
  intro e he
  unfold encode at he
  split at he
  · cases he; exact h
  · cases he

theorem resolveWiper (channel : Int) : Statement (.resolveWiper channel) := of_pattern rfl
theorem resolveControl (register : Int) : Statement (.resolveControl register) := of_pattern rfl
theorem addrByte (selector : Int) (direction : Direction) : Statement (.addrByte selector direction) := of_pattern rfl
theorem cmdWr (variant : IndexClass) (memoryAddress : Nibble) : Statement (.cmdWr variant memoryAddress) := of_pattern rfl
theorem cmdInc (memoryAddress : Nibble) : Statement (.cmdInc memoryAddress) := of_pattern rfl
theorem cmdDec (memoryAddress : Nibble) : Statement (.cmdDec memoryAddress) := of_pattern rfl
theorem cmdRd (variant : IndexClass) (memoryAddress : Nibble) : Statement (.cmdRd variant memoryAddress) := of_pattern rfl
theorem rdreq (selector : Int) : Statement (.rdreq selector) := of_pattern rfl
theorem inc (selector channel : Int) (data : Option Byte) : Statement (.inc selector channel data) := of_pattern rfl
theorem dec (selector channel : Int) (data : Option Byte) : Statement (.dec selector channel data) := of_pattern rfl
theorem wrw (selector channel : Int) (data : Option Byte) : Statement (.wrw selector channel data) := of_pattern rfl
theorem wrr (selector register : Int) (data : Option Byte) : Statement (.wrr selector register data) := of_pattern rfl
theorem rdw (selector channel : Int) (data : Option Byte) : Statement (.rdw selector channel data) := of_pattern rfl
theorem rdr (selector register : Int) (data : Option Byte) : Statement (.rdr selector register data) := of_pattern rfl
theorem incW0 (selector : Int) (data : Option Byte) : Statement (.incW0 selector data) := of_pattern rfl
theorem incW1 (selector : Int) (data : Option Byte) : Statement (.incW1 selector data) := of_pattern rfl
theorem incW2 (selector : Int) (data : Option Byte) : Statement (.incW2 selector data) := of_pattern rfl
theorem incW3 (selector : Int) (data : Option Byte) : Statement (.incW3 selector data) := of_pattern rfl
theorem decW0 (selector : Int) (data : Option Byte) : Statement (.decW0 selector data) := of_pattern rfl
theorem decW1 (selector : Int) (data : Option Byte) : Statement (.decW1 selector data) := of_pattern rfl
theorem decW2 (selector : Int) (data : Option Byte) : Statement (.decW2 selector data) := of_pattern rfl
theorem decW3 (selector : Int) (data : Option Byte) : Statement (.decW3 selector data) := of_pattern rfl
theorem wrwW0 (selector : Int) (data : Option Byte) : Statement (.wrwW0 selector data) := of_pattern rfl
theorem wrwW1 (selector : Int) (data : Option Byte) : Statement (.wrwW1 selector data) := of_pattern rfl
theorem wrwW2 (selector : Int) (data : Option Byte) : Statement (.wrwW2 selector data) := of_pattern rfl
theorem wrwW3 (selector : Int) (data : Option Byte) : Statement (.wrwW3 selector data) := of_pattern rfl
theorem rdwW0 (selector : Int) (data : Option Byte) : Statement (.rdwW0 selector data) := of_pattern rfl
theorem rdwW1 (selector : Int) (data : Option Byte) : Statement (.rdwW1 selector data) := of_pattern rfl
theorem rdwW2 (selector : Int) (data : Option Byte) : Statement (.rdwW2 selector data) := of_pattern rfl
theorem rdwW3 (selector : Int) (data : Option Byte) : Statement (.rdwW3 selector data) := of_pattern rfl
theorem wrrT01 (selector : Int) (data : Option Byte) : Statement (.wrrT01 selector data) := of_pattern rfl
theorem wrrT23 (selector : Int) (data : Option Byte) : Statement (.wrrT23 selector data) := of_pattern rfl
theorem rdrT01 (selector : Int) (data : Option Byte) : Statement (.rdrT01 selector data) := of_pattern rfl
theorem rdrT23 (selector : Int) (data : Option Byte) : Statement (.rdrT23 selector data) := of_pattern rfl

end Sys2Proof.Laws.EncodeLength
end

