-- ==== Sys2Proof/Laws/Program.lean ====
section
/-! SUPPORT. Runs of the machine behind the host's interface, one step at a time, so that a proof about a program never
unfolds the host's definitions. -/

namespace Sys2Proof.Machine

theorem core_step (s : State) : Sys2Proof.core.step s = step s := rfl

theorem core_run_zero (s : State) : Sys2Proof.core.run 0 s = .next s := rfl

/-- A run whose first step answers `t` goes on from `t`. -/
theorem core_run_succ {k : Nat} {s t : State} (h : step s = .next t) :
    Sys2Proof.core.run (k + 1) s = Sys2Proof.core.run k t := by
  have h' : Sys2Proof.core.step s = .next t := h
  simp only [Host.Core.run, h']

/-- A step with an instruction pending in the call syntax. -/
theorem step_of_call {s : State} {i : Instr} {rest : List Request} (h : s.pending = .call i :: rest) :
    step s = .next ((drivenBy i { s with pending := rest }).observe (outcomeBy i)) := by
  rw [step_of_pending h]
  exact exec_eq i _

end Sys2Proof.Machine
end

