-- ==== Sys2Proof/Laws/Transaction.lean ====
section
/-! SUPPORT. The small lemmas of transactions and byte streams: how the length rule cuts each kind of frame, and how the
frames of an observation are gathered. -/

namespace Sys2Proof.Machine

@[simp] theorem splitStream_nil : splitStream [] = some [] := rfl

/-- A first byte with R/W = 1 is a frame by itself. -/
theorem splitStream_addressOnly {b0 : Byte} (rest : List Byte) (h : b0.extractLsb' 0 1 = 1#1) :
    splitStream (b0 :: rest) = (splitStream rest).map (.addressOnly b0 :: ·) := by
  rw [splitStream.eq_def]
  simp [h]

/-- A write address byte and a command byte other than Write are a frame. -/
theorem splitStream_command {b0 b1 : Byte} (rest : List Byte) (h : b0.extractLsb' 0 1 ≠ 1#1)
    (h' : b1.extractLsb' 2 2 ≠ 0b00#2) :
    splitStream (b0 :: b1 :: rest) = (splitStream rest).map (.command b0 b1 :: ·) := by
  rw [splitStream.eq_def]
  simp [h, h']

/-- A write address byte, a Write command byte and a data byte are a frame. -/
theorem splitStream_commandData {b0 b1 : Byte} (d : Byte) (rest : List Byte) (h : b0.extractLsb' 0 1 ≠ 1#1)
    (h' : b1.extractLsb' 2 2 = 0b00#2) :
    splitStream (b0 :: b1 :: d :: rest) = (splitStream rest).map (.commandData b0 b1 d :: ·) := by
  rw [splitStream.eq_def]
  simp [h, h']

/-- The frames of a longer observation are the frames of its parts. -/
@[simp] theorem framesOf_append (a b : List Observation) : framesOf (a ++ b) = framesOf a ++ framesOf b := by
  induction a with
  | nil => rfl
  | cons o a ih => cases o <;> simp [framesOf, ih]

/-- The bytes of frames sent one after another. -/
theorem byteStream_cons (f : Frame) (fs : List Frame) : byteStream (f :: fs) = f.bytes ++ byteStream fs := by
  simp [byteStream]

end Sys2Proof.Machine
end

