-- ==== Sys2Proof/Tests/Slice0.lean ====
section
/-! SUPPORT. Tests of the model, and for each obligation with hypotheses a witness that meets them. Expected values come from
the "encoding" column of spec/opcode_table.json and the vectors of spec/95_test_vectors.md (S, V, P), never from the
model. -/

open Sys2Proof Sys2Proof.Machine Sys2Proof.Stmt

namespace Sys2Proof.Tests

/-- Reset with one call pending. -/
def pendingState (r : Request) : State := { State.reset with pending := [r] }

/-- What one step observes of one request made from reset. -/
def observedOf (r : Request) : List Observation :=
  match step (pendingState r) with
  | .next t => t.observed
  | .fault _ => []
  | .refused _ => []

/-- OutOfRange alone. -/
def oor : Observation := .errors ⟨true, false⟩

/-- InvalidOperation alone. -/
def inv : Observation := .errors ⟨false, true⟩

/-- Both errors. -/
def both : Observation := .errors ⟨true, true⟩

/-! ### Well-formedness: each check refuses an ill-formed term -/

theorem test_wf_wiper_channel :
    (Instr.resolveWiper 4).wellFormed = false ∧ (Instr.resolveWiper 3).wellFormed = true := by decide
theorem test_wf_control_register :
    (Instr.resolveControl (-1)).wellFormed = false ∧ (Instr.resolveControl 0).wellFormed = true := by decide
theorem test_wf_address_selector :
    (Instr.addrByte 4 .write).wellFormed = false ∧ (Instr.rdreq (-1)).wellFormed = false := by decide
theorem test_wf_frame_selector :
    (Instr.inc 4 0 none).wellFormed = false ∧ (Instr.incW0 4 none).wellFormed = false := by decide
theorem test_wf_frame_channel :
    (Instr.dec 0 4 none).wellFormed = false ∧ (Instr.rdw 0 (-1) none).wellFormed = false := by decide
theorem test_wf_frame_register :
    (Instr.wrr 0 4 (some 1)).wellFormed = false ∧ (Instr.rdr 0 4 none).wellFormed = false := by decide
theorem test_wf_data_missing :
    (Instr.wrw 0 0 none).wellFormed = false ∧ (Instr.wrrT01 0 none).wellFormed = false := by decide
theorem test_wf_data_forbidden :
    (Instr.inc 0 0 (some 0)).wellFormed = false ∧ (Instr.rdwW3 0 (some 0)).wellFormed = false := by decide
theorem test_wf_valid :
    (Instr.wrw 3 3 (some 0)).wellFormed = true ∧ (Instr.rdrT23 3 none).wellFormed = true := by decide

/-! ### Decoding: words written out from the "encoding" column, one for each row -/

theorem test_decode_resolveWiper : decodeTableWord 4 0b0111 = some (.resolveWiper 3) := by decide
theorem test_decode_resolveControl : decodeTableWord 4 0b1010 = some (.resolveControl 2) := by decide
theorem test_decode_addrByte : decodeTableWord 8 0b01011010 = some (.addrByte 1 .write) := by decide
theorem test_decode_cmdWr_wiper : decodeTableWord 8 0b00100000 = some (.cmdWr .wiper 0x2) := by decide
theorem test_decode_cmdWr_control : decodeTableWord 8 0b01000000 = some (.cmdWr .control 0x4) := by decide
theorem test_decode_cmdInc : decodeTableWord 8 0b10010100 = some (.cmdInc 0x9) := by decide
theorem test_decode_cmdDec : decodeTableWord 8 0b11101000 = some (.cmdDec 0xE) := by decide
theorem test_decode_cmdRd : decodeTableWord 8 0b10101100 = some (.cmdRd .control 0xA) := by decide
theorem test_decode_rdreq : decodeTableWord 8 0b01011101 = some (.rdreq 2) := by decide
theorem test_decode_incW0 : decodeTableWord 16 0b0101100000000100 = some (.incW0 0 none) := by decide
theorem test_decode_incW1 : decodeTableWord 16 0b0101101000010100 = some (.incW1 1 none) := by decide
theorem test_decode_incW2 : decodeTableWord 16 0b0101110001100100 = some (.incW2 2 none) := by decide
theorem test_decode_incW3 : decodeTableWord 16 0b0101111001110100 = some (.incW3 3 none) := by decide
theorem test_decode_decW0 : decodeTableWord 16 0b0101101000001000 = some (.decW0 1 none) := by decide
theorem test_decode_decW1 : decodeTableWord 16 0b0101110000011000 = some (.decW1 2 none) := by decide
theorem test_decode_decW2 : decodeTableWord 16 0b0101111001101000 = some (.decW2 3 none) := by decide
theorem test_decode_decW3 : decodeTableWord 16 0b0101101001111000 = some (.decW3 1 none) := by decide
theorem test_decode_rdwW0 : decodeTableWord 16 0b0101110000001100 = some (.rdwW0 2 none) := by decide
theorem test_decode_rdwW1 : decodeTableWord 16 0b0101111000011100 = some (.rdwW1 3 none) := by decide
theorem test_decode_rdwW2 : decodeTableWord 16 0b0101101001101100 = some (.rdwW2 1 none) := by decide
theorem test_decode_rdwW3 : decodeTableWord 16 0b0101110001111100 = some (.rdwW3 2 none) := by decide
theorem test_decode_wrwW0 : decodeTableWord 24 0b010111100000000010100101 = some (.wrwW0 3 (some 0xA5)) := by decide
theorem test_decode_wrwW1 : decodeTableWord 24 0b010110100001000010100101 = some (.wrwW1 1 (some 0xA5)) := by decide
theorem test_decode_wrwW2 : decodeTableWord 24 0b010111000110000010100101 = some (.wrwW2 2 (some 0xA5)) := by decide
theorem test_decode_wrwW3 : decodeTableWord 24 0b010111100111000010100101 = some (.wrwW3 3 (some 0xA5)) := by decide
theorem test_decode_wrrT01 : decodeTableWord 24 0b010111100100000010000001 = some (.wrrT01 3 (some 0x81)) := by decide
theorem test_decode_wrrT23 : decodeTableWord 24 0b010110101010000001111110 = some (.wrrT23 1 (some 0x7E)) := by decide
theorem test_decode_rdrT01 : decodeTableWord 16 0b0101110001001100 = some (.rdrT01 2 none) := by decide
theorem test_decode_rdrT23 : decodeTableWord 16 0b0101111010101100 = some (.rdrT23 3 none) := by decide

/-! ### Encoding: the rows whose words are also another row's (V66, V85, V93, V98, V125, V129, V22, V12, and the table of
95_test_vectors.md section 2.3 at 0x5) -/

theorem test_encode_inc : encode (.inc 2 2 none) = some (.bytes [0b01011100, 0b01100100]) := by decide
theorem test_encode_dec : encode (.dec 1 3 none) = some (.bytes [0b01011010, 0b01111000]) := by decide
theorem test_encode_wrw :
    encode (.wrw 2 2 (some 0xA5)) = some (.bytes [0b01011100, 0b01100000, 0b10100101]) := by decide
theorem test_encode_wrr :
    encode (.wrr 2 3 (some 0xA5)) = some (.bytes [0b01011100, 0b10100000, 0b10100101]) := by decide
theorem test_encode_rdw : encode (.rdw 3 2 none) = some (.bytes [0b01011110, 0b01101100]) := by decide
theorem test_encode_rdr : encode (.rdr 3 2 none) = some (.bytes [0b01011110, 0b10101100]) := by decide
theorem test_encode_addrByte_read : encode (.addrByte 1 .read) = some (.bytes [0b01011011]) := by decide
theorem test_encode_resolveControl : encode (.resolveControl 1) = some (.nibble 0b0100) := by decide
theorem test_encode_cmdDec_at_five : encode (.cmdDec 0x5) = some (.bytes [0b01011000]) := by decide
theorem test_encode_cmdRd_at_five : encode (.cmdRd .wiper 0x5) = some (.bytes [0b01011100]) := by decide
theorem test_encode_invalid : encode (.inc 4 0 none) = none := by decide

/-! ### Bits that no instruction emits (R73, V169 to V173, V180 to V182, V186 to V188) -/

theorem test_reject_empty : decode (.bytes []) = .error .empty := by decide
theorem test_reject_not_address : decode (.bytes [0x57, 0x04]) = .error .notAnAddressByte := by decide
theorem test_reject_single : decode (.bytes [0x57]) = .error .notAByteOfTheBlock := by decide
theorem test_reject_after_read_request : decode (.bytes [0x5D, 0x1C]) = .error .byteAfterReadRequest := by decide
theorem test_reject_low_bits : decode (.bytes [0x58, 0x72]) = .error .commandLowBitsSet := by decide
theorem test_reject_missing_data : decode (.bytes [0x58, 0x70]) = .error .missingData := by decide
theorem test_reject_printed_S6 : decode (.bytes [0x58, 0x74, 0x7F]) = .error .trailingByte := by decide
theorem test_reject_fourth_byte : decode (.bytes [0x58, 0x70, 0x7F, 0x00]) = .error .trailingByte := by decide
theorem test_reject_address : decode (.bytes [0x58, 0x34]) = .error .addressNotReached := by decide
theorem test_reject_tcon_increment : decode (.bytes [0x58, 0x44]) = .error .tconNotCounted := by decide
theorem test_reject_nibble : decode (.nibble 0x5) = .error .nibbleNotResolved := by decide
/-- V164, V176, V183. -/
theorem test_helpers_accept :
    decodeAddressByte 0x5B = some (1, .read) ∧ decodeCommandByte 0x74 = some (0x7, 0b01) ∧
      decodeFrame [0x58, 0x70, 0x7F] = some ⟨0, .write, some (0x7, 0b00), some 0x7F⟩ := by decide
/-- V170, V180, V187. -/
theorem test_helpers_refuse :
    decodeAddressByte 0x60 = none ∧ decodeCommandByte 0x71 = none ∧ decodeFrame [0x58, 0x74, 0x7F] = none := by decide
/-- R41: the bus address is bits 7 to 1 of the address byte: 0x5A / 2. -/
theorem test_bus_address : busAddress 0x5A = 0x2D ∧ busAddress 0x5B = 0x2D := by decide

/-! ### Calls (S4 to S6, V vectors) -/

/-- V3. -/
theorem test_resolveWiper : observedOf (.call (.resolveWiper 2)) = [.address 0x6] := by decide
/-- V5. -/
theorem test_resolveWiper_no_wrap : observedOf (.call (.resolveWiper 4)) = [oor] := by decide
/-- V12. -/
theorem test_resolveControl : observedOf (.call (.resolveControl 1)) = [.address 0x4] := by decide
/-- V18. -/
theorem test_resolveControl_negative : observedOf (.call (.resolveControl (-1))) = [oor] := by decide
/-- S4. -/
theorem test_addrByte_read : observedOf (.call (.addrByte 2 .read)) = [.byte 0x5D] := by decide
/-- V27: neither 0x58 nor 0x60. -/
theorem test_addrByte_bad : observedOf (.call (.addrByte 4 .write)) = [oor] := by decide
/-- S5. -/
theorem test_cmdInc : observedOf (.call (.cmdInc 0x1)) = [.byte 0x14] := by decide
/-- 95_test_vectors.md section 2.3: encoded, although no frame has it. -/
theorem test_cmdDec : observedOf (.call (.cmdDec 0xA)) = [.byte 0xA8] := by decide
/-- Section 2.3. -/
theorem test_cmdWr : observedOf (.call (.cmdWr .control 0xA)) = [.byte 0xA0] := by decide
/-- Section 2.3, the largest result. -/
theorem test_cmdRd : observedOf (.call (.cmdRd .wiper 0xF)) = [.byte 0xFC] := by decide
/-- Section 2.2. -/
theorem test_rdreq : observedOf (.call (.rdreq 3)) = [.frame (.addressOnly 0x5F)] := by decide
/-- V38. -/
theorem test_inc : observedOf (.call (.inc 0 3 none)) = [.frame (.command 0x58 0x74)] := by decide
/-- V149. -/
theorem test_inc_data : observedOf (.call (.inc 0 0 (some 0))) = [inv] := by decide
/-- V113. -/
theorem test_dec : observedOf (.call (.dec 3 2 none)) = [.frame (.command 0x5E 0x68)] := by decide
/-- V142. -/
theorem test_dec_bad_index : observedOf (.call (.dec 0 255 none)) = [oor] := by decide
/-- S6 as corrected by 90_conflicts.md C1. -/
theorem test_wrw : observedOf (.call (.wrw 0 3 (some 0x7F))) = [.frame (.commandData 0x58 0x70 0x7F)] := by decide
/-- V154. -/
theorem test_wrw_both_errors : observedOf (.call (.wrw 0 7 none)) = [both] := by decide
/-- V139. -/
theorem test_wrr : observedOf (.call (.wrr 3 3 (some 0x5A))) = [.frame (.commandData 0x5E 0xA0 0x5A)] := by decide
/-- V155. -/
theorem test_wrr_both_errors : observedOf (.call (.wrr 9 9 none)) = [both] := by decide
/-- V100. -/
theorem test_rdw : observedOf (.call (.rdw 2 1 none)) = [.frame (.command 0x5C 0x1C)] := by decide
/-- V153. -/
theorem test_rdw_both_errors : observedOf (.call (.rdw 5 1 (some 0))) = [both] := by decide
/-- V80. -/
theorem test_rdr : observedOf (.call (.rdr 1 1 none)) = [.frame (.command 0x5A 0x4C)] := by decide
/-- V152. -/
theorem test_rdr_data : observedOf (.call (.rdr 0 3 (some 0))) = [inv] := by decide
/-- V36, V64, V45, V54: concrete rows. -/
theorem test_concrete_wipers :
    observedOf (.call (.incW1 0 none)) = [.frame (.command 0x58 0x14)] ∧
      observedOf (.call (.decW1 1 none)) = [.frame (.command 0x5A 0x18)] ∧
      observedOf (.call (.wrwW2 0 (some 0xA5))) = [.frame (.commandData 0x58 0x60 0xA5)] ∧
      observedOf (.call (.rdwW3 0 none)) = [.frame (.command 0x58 0x7C)] := by decide
/-- V96, V129, V155: the TCON rows. -/
theorem test_concrete_tcon :
    observedOf (.call (.wrrT01 2 (some 0xA5))) = [.frame (.commandData 0x5C 0x40 0xA5)] ∧
      observedOf (.call (.rdrT23 3 none)) = [.frame (.command 0x5E 0xAC)] ∧
      observedOf (.call (.wrrT23 9 none)) = [both] := by decide
/-- V158, V159, V160: reserved operation codes at the frame ports; section 2.3: at the command ports. -/
theorem test_reserved_codes :
    observedOf (.bf ⟨0, 6, 0, none⟩) = [inv] ∧ observedOf (.bf ⟨0, 7, 9, some 1⟩) = [inv] ∧
      observedOf (.bf ⟨4, 6, 0, none⟩) = [both] ∧ observedOf (.ec ⟨7, 0x3⟩) = [inv] := by decide
/-- V153 to V156: the single-error projection. -/
theorem test_single_error :
    frameErrorCause 5 (some .readWiper) 1 (some 0) = some .selectorOutOfRange ∧
      frameErrorCause 0 (some .writeWiper) 7 none = some .indexOutOfRange ∧
      frameErrorCause 0 none 9 (some 1) = some .invalidOperation ∧
      frameErrorCause 0 (some .readWiper) 0 none = none := by decide
/-- Section 2.5, the port-level table, its lines 1, 2 and 4 (padding bytes left out). -/
theorem test_ports :
    (RawFrameIn.pins ⟨0x00#8, 2, 0x03#8, 1, 0x7F⟩).out.frameBytes = [0x58, 0x70, 0x7F] ∧
      (RawFrameIn.pins ⟨0x02#8, 4, 0x01#8, 0, 0xEE⟩).out.frameBytes = [0x5C, 0x1C] ∧
      (RawFrameIn.pins ⟨0x00#8, 2, 0x07#8, 0, 0x00⟩).out.errOutOfRange = 1 ∧
      (RawFrameIn.pins ⟨0x00#8, 2, 0x07#8, 0, 0x00⟩).out.errInvalidOperation = 1 := by decide
/-- Section 2.1, the port-level rendering; V19 and V24 at the address ports; section 2.3 at the command ports. -/
theorem test_leaf_ports :
    (RawWiperIn.pins ⟨0x03#8⟩).out = ⟨0x7, 0⟩ ∧ (RawWiperIn.pins ⟨0x04#8⟩).out.errOutOfRange = 1 ∧
      (RawControlIn.pins ⟨0x02#8⟩).out = ⟨0xA, 0⟩ ∧ (RawControlIn.pins ⟨0xFF#8⟩).out.errOutOfRange = 1 ∧
      (RawAddressIn.pins ⟨0x00#8, 0⟩).out = ⟨0x58, 0⟩ ∧ (RawAddressIn.pins ⟨0x02#8, 1⟩).out = ⟨0x5D, 0⟩ ∧
      CommandPins.out ⟨1, 0xA⟩ = ⟨0xA8, 0⟩ ∧ (CommandPins.out ⟨6, 0xA⟩).errInvalidOperation = 1 := by decide
/-- P1, its steps 2 to 4: the read transaction; the run of bytes of P1 cut back into its frames. -/
theorem test_transaction :
    readWiperTxn 0 3 = .ok [.frame (.command 0x58 0x7C), .restart, .frame (.addressOnly 0x59)] ∧
      splitStream [0x58, 0x70, 0x7F, 0x58, 0x7C, 0x59] =
        some [.commandData 0x58 0x70 0x7F, .command 0x58 0x7C, .addressOnly 0x59] := by decide
/-- P4, its step 4: a call that fails adds its errors and nothing else; R181: the other outputs stay unknown. -/
theorem test_failed_call_leaves_no_byte :
    observedOf (.call (.inc 6 1 (some 1))) = [both] ∧ framesOf (observedOf (.call (.inc 6 1 (some 1)))) = [] := by
  decide
/-- A word the block does not emit is refused by the name of the reason. -/
theorem test_step_refuses_foreign_bits :
    step (State.reset.withFetchWord 16 0x5834) = .refused (.undecodable .addressNotReached) := rfl
/-- A word placed by `withFetchWord` runs as the first instruction after reset. -/
theorem test_withFetchWord_runs :
    step (State.reset.withFetchWord 16 0x5A64) = exec (.incW2 1 none) State.reset := rfl

/-! ### Witnesses: the hypotheses of each obligation can be met, each clause at the ends of its range -/

/-- O1 to O4, O23, O53: integers outside [0,3], on both sides. -/
theorem witness_bad : bad (-1) ∧ bad 4 ∧ ¬bad 0 ∧ ¬bad 3 := by decide
/-- O4, O20, O21: a two-byte and a three-byte call of buildFrame that gives a frame. -/
theorem witness_buildFrame :
    buildFrame 3 (some .increment) 0 none = .ok (.command 0x5E 0x04) ∧
      buildFrame 0 (some .writeRegister) 3 (some 0xFF) = .ok (.commandData 0x58 0xA0 0xFF) := by decide
/-- O8, O9, O12, O13: each error alone, on forms without data. -/
theorem witness_errors_without_data :
    (bad (-1) ∨ bad 0 ∨ (none : Option Byte) ≠ none) ∧ (bad 3 ∨ bad 4 ∨ (none : Option Byte) ≠ none) ∧
      (bad 0 ∨ bad 3 ∨ (some 0 : Option Byte) ≠ none) := by decide
/-- O10, O11: each error alone, on forms with data. -/
theorem witness_errors_with_data :
    (bad 4 ∨ bad 0 ∨ (some 0 : Option Byte) = none) ∧ (bad 3 ∨ bad (-1) ∨ (some 0 : Option Byte) = none) ∧
      (bad 0 ∨ bad 3 ∨ (none : Option Byte) = none) := by decide
/-- O17: rows of the list, with data right and wrong. -/
theorem witness_concretePairs :
    (Instr.incW0 0 none, Instr.inc 0 0 none) ∈ concretePairs 0 none ∧
      (Instr.rdrT23 4 (some 1), Instr.rdr 4 3 (some 1)) ∈ concretePairs 4 (some 1) := by decide
/-- O18, O19, O30: each outcome of buildFrame occurs. -/
theorem witness_buildFrame_errors :
    buildFrame 4 (some .increment) 0 none = .error ⟨true, false⟩ ∧
      buildFrame 0 (some .writeWiper) 3 none = .error ⟨false, true⟩ ∧
      buildFrame (-1) none 9 none = .error ⟨true, true⟩ := by decide
/-- O22: a call for each resolver. -/
theorem witness_composition :
    buildFrame 1 (some .decrement) 3 none = .ok (.command 0x5A 0x78) ∧
      buildFrame 3 (some .writeRegister) 1 (some 0x33) = .ok (.commandData 0x5E 0x40 0x33) := by decide
/-- O23: two equal addresses, and the two register operations. -/
theorem witness_translation :
    resolveWiperAddress 3 = .ok 0x7 ∧ (Operation.writeRegister = .writeRegister ∨ Operation.writeRegister = .readRegister) ∧
      (Operation.readRegister = .writeRegister ∨ Operation.readRegister = .readRegister) := by decide
/-- O26: codes 6 and 7 pending at the frame ports, selector inside and outside. -/
theorem witness_reserved_frame :
    ((6 : BitVec 3) = 6 ∨ (6 : BitVec 3) = 7) ∧ ((7 : BitVec 3) = 6 ∨ (7 : BitVec 3) = 7) ∧
      (pendingState (.bf ⟨3, 6, 4, none⟩)).pending = .bf ⟨3, 6, 4, none⟩ :: [] ∧
      (pendingState (.bf ⟨4, 7, 0, some 0⟩)).pending = .bf ⟨4, 7, 0, some 0⟩ :: [] := by decide
/-- O27: codes 6 and 7 pending at the command ports. -/
theorem witness_reserved_command :
    (pendingState (.ec ⟨6, 0x0⟩)).pending = .ec ⟨6, 0x0⟩ :: [] ∧
      (pendingState (.ec ⟨7, 0xF⟩)).pending = .ec ⟨7, 0xF⟩ :: [] := by decide
/-- O29: a request that is neither in the call syntax nor named by bits, for a legal and a reserved code. -/
theorem witness_port_call :
    (∀ i, Request.ec ⟨6, 0xF⟩ ≠ .call i) ∧ (∀ e, Request.ec ⟨6, 0xF⟩ ≠ .emitted e) ∧
      (∀ i, Request.bf ⟨0, 5, 3, none⟩ ≠ .call i) ∧ (∀ e, Request.bf ⟨0, 5, 3, none⟩ ≠ .emitted e) ∧
      (pendingState (.bf ⟨0, 5, 3, none⟩)).pending = .bf ⟨0, 5, 3, none⟩ :: [] ∧
      (pendingState (.ec ⟨6, 0xF⟩)).pending = .ec ⟨6, 0xF⟩ :: [] := by
  refine ⟨?_, ?_, ?_, ?_, rfl, rfl⟩ <;> intro _ h <;> cases h
/-- O30: raw inputs with a frame and with errors, at width 3. -/
theorem witness_raw_frame :
    (RawFrameIn.pins ⟨3#3, 5, 0#3, 0, 0xEE⟩).out.frameLen = 2 ∧
      (RawFrameIn.pins ⟨4#3, 6, 7#3, 1, 0x00⟩).out.frameLen = 0 := by decide
/-- O31: the ends of the range of a 3-bit index input. -/
theorem witness_representable : Config.representable 3 0 ∧ Config.representable 3 7 ∧ ¬Config.representable 3 8 := by
  decide
/-- O33: an instruction of every port group, each answering a next state. -/
theorem witness_groups :
    groupOf (.resolveWiper 4) = .rw ∧ groupOf (.resolveControl 0) = .rc ∧ groupOf (.rdreq 3) = .ab ∧
      groupOf (.cmdInc 0) = .ec ∧ groupOf (.incW3 4 none) = .bf ∧
      (∀ i, i = Instr.resolveWiper 4 ∨ i = .resolveControl 0 ∨ i = .rdreq 3 ∨ i = .cmdInc 0 ∨ i = .incW3 4 none →
        ∃ t, exec i State.reset = .next t) :=
  ⟨rfl, rfl, rfl, rfl, rfl, fun i _ => ⟨_, exec_eq i _⟩⟩
/-- O34: a port call of each group pending. -/
theorem witness_port_calls :
    (pendingState (.rw ⟨4⟩)).pending = .rw ⟨4⟩ :: [] ∧ (pendingState (.rc ⟨0⟩)).pending = .rc ⟨0⟩ :: [] ∧
      (pendingState (.ab ⟨3, 1⟩)).pending = .ab ⟨3, 1⟩ :: [] ∧
      (pendingState (.ec ⟨7, 0xF⟩)).pending = .ec ⟨7, 0xF⟩ :: [] ∧
      (pendingState (.bf ⟨0, 6, 4, none⟩)).pending = .bf ⟨0, 6, 4, none⟩ :: [] := by decide
/-- O36: pending calls that name an instruction, by syntax, by port values and by bits. -/
theorem witness_fetch :
    (pendingState (.call (.rdreq 0))).pending = .call (.rdreq 0) :: [] ∧ fetch (.bf ⟨0, 5, 3, none⟩) = .instr (.rdr 0 3 none) ∧
      decode (.bytes [0x5F]) = .ok (.rdreq 3) ∧ decodeTableWord 16 0x5E78 = some (.decW3 3 none) := by decide
/-- O37, O42: reset has nothing pending. -/
theorem witness_idle : State.reset.pending = [] := rfl
/-- O38: both alternatives occur. -/
theorem witness_step_outcomes :
    step State.reset = .next State.reset ∧
      step (pendingState (.emitted (.bytes []))) = .refused (.undecodable .empty) := ⟨rfl, rfl⟩
/-- O43: a state that is not reset meets the invariant and takes a step; one with an illegal outcome does not meet it. -/
theorem witness_invariant :
    (∀ o ∈ [Observation.address 0xA, oor], o.legal = true) ∧ (Observation.errors ⟨false, false⟩).legal = false ∧
      (Observation.address 0x5).legal = false ∧
      ∃ t, step { pendingState (.call (.rdreq 3)) with observed := [.address 0xA, oor] } = .next t :=
  ⟨by decide, by decide, by decide, _, exec_eq (.rdreq 3) _⟩
/-- O44: an instruction that decodes to itself and one that shares its bits with its canonical form. -/
theorem witness_encode :
    encode (.wrrT23 3 (some 0)) = some (.bytes [0x5E, 0xA0, 0x00]) ∧
      encode (.wrr 3 2 (some 0)) = some (.bytes [0x5E, 0xA0, 0x00]) ∧
      (Instr.wrr 3 2 (some 0)).canonical = .wrrT23 3 (some 0) := by decide
/-- O45: members of the list. -/
theorem witness_concreteRows :
    Instr.incW0 0 none ∈ concreteRows 0 0xFF ∧ Instr.wrrT23 3 (some 0xFF) ∈ concreteRows 3 0xFF ∧
      Instr.rdreq 3 ∈ concreteRows 3 0 := by decide
/-- O46: bits of each kind that decode. -/
theorem witness_decode :
    decode (.nibble 0xA) = .ok (.resolveControl 2) ∧ decode (.bytes [0x58]) = .ok (.addrByte 0 .write) ∧
      decode (.bytes [0xFC]) = .ok (.cmdRd .wiper 0xF) ∧
      decode (.bytes [0x5E, 0x70, 0x80]) = .ok (.wrwW3 3 (some 0x80)) := by decide
/-- O47: a well-formed instruction and one that is not. -/
theorem witness_wellFormed :
    (Instr.inc 3 3 none).wellFormed = true ∧ (Instr.inc 3 4 none).wellFormed = false ∧
      (Instr.wrwW0 0 none).wellFormed = false := by decide
/-- O48: the byte before and after the address bytes, command bytes with a low bit set, an address that is reached and
one that is not, an opcode that is not Write, and the two TCON addresses with the two counting opcodes. -/
theorem witness_foreign_bytes :
    (0x57#8).extractLsb' 3 5 ≠ 0b01011#5 ∧ (0x60#8).extractLsb' 3 5 ≠ 0b01011#5 ∧ (0x71#8).extractLsb' 0 2 ≠ 0b00#2 ∧
      (0x72#8).extractLsb' 0 2 ≠ 0b00#2 ∧ isReachedAddress 0x5 = false ∧ isReachedAddress 0x8 = false ∧
      isReachedAddress 0x7 = true ∧ isReachedAddress 0xA = true ∧ (0b11#2 ≠ 0b00#2) ∧
      ((0x4#4) = 0x4 ∨ (0x4#4) = 0xA) ∧ ((0xA#4) = 0x4 ∨ (0xA#4) = 0xA) ∧ (0b01#2 = 0b01#2 ∨ 0b01#2 = 0b10#2) ∧
      (0b10#2 = 0b01#2 ∨ 0b10#2 = 0b10#2) := by decide
/-- O48, one byte alone and an address alone: a foreign byte on each side of the address bytes, the first and the last
address byte, the largest command byte, addresses beside those that are resolved. -/
theorem witness_foreign_single :
    ((0x57#8).extractLsb' 3 5 ≠ 0b01011#5 ∧ (0x57#8).extractLsb' 0 2 ≠ 0b00#2) ∧
      ((0x61#8).extractLsb' 3 5 ≠ 0b01011#5 ∧ (0x61#8).extractLsb' 0 2 ≠ 0b00#2) ∧
      ((0x58#8).extractLsb' 3 5 = 0b01011#5 ∨ (0x58#8).extractLsb' 0 2 = 0b00#2) ∧
      ((0x5F#8).extractLsb' 3 5 = 0b01011#5 ∨ (0x5F#8).extractLsb' 0 2 = 0b00#2) ∧
      ((0xFC#8).extractLsb' 3 5 = 0b01011#5 ∨ (0xFC#8).extractLsb' 0 2 = 0b00#2) ∧
      isReachedAddress 0x2 = false ∧ isReachedAddress 0xF = false := by decide
/-- O49: the bytes beside the range. -/
theorem witness_address_byte_range :
    ¬(0x58 ≤ (0x57#8).toNat ∧ (0x57#8).toNat ≤ 0x5F) ∧ ¬(0x58 ≤ (0x60#8).toNat ∧ (0x60#8).toNat ≤ 0x5F) ∧
      (0x58 ≤ (0x5F#8).toNat ∧ (0x5F#8).toNat ≤ 0x5F) := by decide
/-- O50: frames of both lengths and the read request. -/
theorem witness_built_frames :
    buildFrame 2 (some .readWiper) 1 none = .ok (.command 0x5C 0x1C) ∧
      buildFrame 0 (some .writeWiper) 3 (some 0x7F) = .ok (.commandData 0x58 0x70 0x7F) ∧
      readRequest 3 = .ok (.addressOnly 0x5F) := by decide
/-- O51: a list with a legal frame of each kind. -/
theorem witness_legal_frames :
    ∀ f ∈ [Frame.commandData 0x58 0x70 0x7F, .command 0x58 0x7C, .addressOnly 0x59], f.legal = true := by decide
/-- O54: transactions that exist. -/
theorem witness_transactions :
    readWiperTxn 3 0 = .ok [.frame (.command 0x5E 0x0C), .restart, .frame (.addressOnly 0x5F)] ∧
      readRegisterTxn 3 2 = .ok [.frame (.command 0x5E 0xAC), .restart, .frame (.addressOnly 0x5F)] ∧
      frameTxn 1 .increment 2 none = .ok [.frame (.command 0x5A 0x64)] := by decide
/-- O55: the ends of both ranges of an index input, at width 3. -/
theorem witness_leaf_inputs :
    (0#3).toNat = ((0 : Fin 4)).val ∧ (3#3).toNat = ((3 : Fin 4)).val ∧ 3 < (4#3).toNat ∧ 3 < (7#3).toNat := by decide
/-- O57: a list of each format, and lists of a wrong length on each side. -/
theorem witness_formats :
    decodeFrame [0x5F] = some ⟨3, .read, none, none⟩ ∧ decodeFrame [0x5C, 0x1C] = some ⟨2, .write, some (0x1, 0b11), none⟩ ∧
      decodeFrame [0x58, 0x70, 0x7F] = some ⟨0, .write, some (0x7, 0b00), some 0x7F⟩ ∧ decodeFrame [] = none ∧
      decodeFrame [0x58] = none ∧ decodeFrame [0x58, 0x70] = none ∧ decodeFrame [0x58, 0x70, 0x7F, 0x00] = none := by
  decide

end Sys2Proof.Tests
end

section
/-! SUPPORT. Proofs of the family 10_state: the observation holds only legal outcomes at reset, and every step keeps it so.
A step observes at most one outcome more, so what the invariant needs is that each of the five functions of the block ends
in a legal one. -/

open Sys2Proof Sys2Proof.Machine

namespace Sys2Proof.Legality

/-! ### The fields of the bytes and addresses that the block builds -/

@[simp] theorem isAddressByte_addressByte (s : BitVec 2) (d : Direction) : isAddressByte (addressByte s d) = true := by
  cases d <;> (revert s; decide)

@[simp] theorem hasReadBit_addressByte (s : BitVec 2) (d : Direction) :
    hasReadBit (addressByte s d) = decide (d = .read) := by
  cases d <;> (revert s; decide)

@[simp] theorem isCommandByte_commandByte (a : Nibble) (opcode : BitVec 2) :
    isCommandByte (commandByte a opcode) = true := by
  revert a opcode; decide

@[simp] theorem commandByte_opcodeField (a : Nibble) (opcode : BitVec 2) :
    (commandByte a opcode).extractLsb' 2 2 = opcode := by
  revert a opcode; decide

@[simp] theorem commandByte_addressField (a : Nibble) (opcode : BitVec 2) :
    (commandByte a opcode).extractLsb' 4 4 = a := by
  revert a opcode; decide

@[simp] theorem isWiperAddress_wiperAddress (c : BitVec 2) : isWiperAddress (wiperAddress c) = true := by
  revert c; decide

@[simp] theorem isReachedAddress_wiperAddress (c : BitVec 2) : isReachedAddress (wiperAddress c) = true := by
  simp [isReachedAddress]

@[simp] theorem isReachedAddress_controlAddress (r : BitVec 2) : isReachedAddress (controlAddress r) = true := by
  revert r; decide

/-! ### The frames that the block builds -/

theorem addressOnly_legal (s : BitVec 2) : (Frame.addressOnly (addressByte s .read)).legal = true := by
  simp [Frame.legal]

/-- The counting operations go through the wiper table, so a two-byte frame reaches no TCON address but to read it (R69). -/
theorem command_legal (s i : BitVec 2) {op : Operation} (h : op.needsData = false) :
    (Frame.command (addressByte s .write) (commandByte (operationAddress op i) op.opcode)).legal = true := by
  cases op
  case writeWiper => cases h
  case writeRegister => cases h
  all_goals simp [Frame.legal, operationAddress, Operation.indexClass, Operation.opcode]

theorem commandData_legal (s i : BitVec 2) (d : Byte) {op : Operation} (h : op.needsData = true) :
    (Frame.commandData (addressByte s .write) (commandByte (operationAddress op i) op.opcode) d).legal = true := by
  cases op
  case writeWiper => simp [Frame.legal, operationAddress, Operation.indexClass, Operation.opcode]
  case writeRegister => simp [Frame.legal, operationAddress, Operation.indexClass, Operation.opcode]
  all_goals cases h

theorem buildFrame_ok_legal {selector index : Int} {operation : Option Operation} {data : Option Byte} {f : Frame}
    (h : buildFrame selector operation index data = .ok f) : f.legal = true := by
  obtain ⟨op, -, -, -, ⟨hn, -, rfl⟩ | ⟨hn, d, -, rfl⟩⟩ := buildFrame_ok_cases h
  · exact command_legal _ _ hn
  · exact commandData_legal _ _ d hn

/-- Validation finds no error of a named operation exactly on a valid call (R123, R131). -/
theorem frameErrors_isEmpty_iff {selector index : Int} {op : Operation} {data : Option Byte} :
    (frameErrors selector (some op) index data).isEmpty = true ↔
      indexOutOfRange selector = false ∧ indexOutOfRange index = false ∧ op.needsData = data.isSome := by
  simp [frameErrors_some, ErrorSet.isEmpty, and_assoc]

/-- The errors of a failed call are those that validation found, at least one (R149, R167): the blocks below, called only
on valid inputs, raise none. -/
theorem buildFrame_error_cases {selector index : Int} {operation : Option Operation} {data : Option Byte} {e : ErrorSet}
    (h : buildFrame selector operation index data = .error e) :
    e = frameErrors selector operation index data ∧ e.isEmpty = false := by
  cases he : (frameErrors selector operation index data).isEmpty with
  | false =>
    rw [buildFrame_of_errors he] at h
    cases h
    exact ⟨rfl, he⟩
  | true =>
    cases operation with
    | none => simp [frameErrors_none, ErrorSet.isEmpty] at he
    | some op =>
      obtain ⟨hs, hi, hd⟩ := frameErrors_isEmpty_iff.1 he
      cases data with
      | none => simp [buildFrame_without_data hs hi hd] at h
      | some d => simp [buildFrame_with_data d hs hi hd] at h

/-! ### The outcomes of the five functions and of the read request -/

theorem errors_legal {e : ErrorSet} (h : e.isEmpty = false) : (Observation.errors e).legal = true := by
  simp [Observation.legal, h]

theorem resolveWiper_outcome_legal (c : Int) : (outcomeOf ((resolveWiperAddress c).map .address)).legal = true := by
  cases h : indexOutOfRange c with
  | false => rw [resolveWiperAddress_of_valid h]; exact isReachedAddress_wiperAddress _
  | true => rw [resolveWiperAddress_of_bad h]; exact errors_legal rfl

theorem resolveControl_outcome_legal (r : Int) :
    (outcomeOf ((resolveControlAddress r).map .address)).legal = true := by
  cases h : indexOutOfRange r with
  | false => rw [resolveControlAddress_of_valid h]; exact isReachedAddress_controlAddress _
  | true => rw [resolveControlAddress_of_bad h]; exact errors_legal rfl

theorem addressByte_outcome_legal (sel : Int) (d : Direction) :
    (outcomeOf ((encodeAddressByte sel d).map .byte)).legal = true := by
  cases h : indexOutOfRange sel with
  | false => rw [encodeAddressByte_of_valid d h]; simp [Except.map, outcomeOf, Observation.legal]
  | true => rw [encodeAddressByte_of_bad d h]; exact errors_legal rfl

theorem readRequest_outcome_legal (sel : Int) : (outcomeOf ((readRequest sel).map .frame)).legal = true := by
  cases h : indexOutOfRange sel with
  | false => rw [readRequest_of_valid h]; exact addressOnly_legal _
  | true => rw [readRequest_of_bad h]; exact errors_legal rfl

theorem command_outcome_legal (operation : Option Operation) (a : Nibble) :
    (outcomeOf ((encodeCommand operation a).map .byte)).legal = true := by
  cases operation with
  | none => exact errors_legal rfl
  | some op => simp [encodeCommand, Except.map, outcomeOf, Observation.legal]

theorem frame_outcome_legal (sel : Int) (operation : Option Operation) (index : Int) (data : Option Byte) :
    (outcomeOf ((buildFrame sel operation index data).map .frame)).legal = true := by
  cases h : buildFrame sel operation index data with
  | ok f => exact buildFrame_ok_legal h
  | error e => exact errors_legal (buildFrame_error_cases h).2

/-- Every instruction has a legal outcome: it calls one of the functions above. -/
theorem outcomeBy_legal (i : Instr) : (outcomeBy i).legal = true := by
  cases i
  case resolveWiper c => exact resolveWiper_outcome_legal c
  case resolveControl r => exact resolveControl_outcome_legal r
  case addrByte sel d => exact addressByte_outcome_legal sel d
  case rdreq sel => exact readRequest_outcome_legal sel
  case cmdWr v a => exact command_outcome_legal (some v.writeOperation) a
  case cmdInc a => exact command_outcome_legal (some .increment) a
  case cmdDec a => exact command_outcome_legal (some .decrement) a
  case cmdRd v a => exact command_outcome_legal (some v.readOperation) a
  all_goals exact frame_outcome_legal _ _ _ _

/-! ### The invariant -/

/-- A request that answers a next state has one legal outcome more observed, reserved operation codes included. -/
theorem runFetched_observes_legal {f : Fetched} {s t : State} (h : runFetched f s = .next t) :
    ∃ o : Observation, o.legal = true ∧ t.observed = s.observed ++ [o] := by
  cases f with
  | instr i =>
    have hi : exec i s = .next t := h
    rw [exec_eq] at hi
    cases hi
    exact ⟨_, outcomeBy_legal i, by simp⟩
  | reservedCommand p =>
    have hp : callEncodeCommand p s = .next t := h
    rw [callEncodeCommand, finish_eq] at hp
    cases hp
    exact ⟨_, command_outcome_legal _ p.memAddr, rfl⟩
  | reservedFrame p =>
    have hp : callBuildFrame p s = .next t := h
    rw [callBuildFrame, finish_eq] at hp
    cases hp
    exact ⟨_, frame_outcome_legal p.selector _ p.index p.data, rfl⟩
  | rejected reason => cases h

/-- One legal outcome more keeps the invariant. -/
theorem inv_of_observed_append {s t : State} {o : Observation} (hs : s.Inv) (ho : o.legal = true)
    (h : t.observed = s.observed ++ [o]) : t.Inv := by
  intro o' ho'
  rw [h, List.mem_append, List.mem_singleton] at ho'
  obtain hmem | rfl := ho'
  · exact hs o' hmem
  · exact ho

theorem inv_reset : State.reset.Inv := by simp [State.Inv]

theorem step_keeps_inv {s t : State} (hs : s.Inv) (h : step s = .next t) : t.Inv := by
  cases hp : s.pending with
  | nil =>
    rw [step_of_idle hp] at h
    cases h
    exact hs
  | cons r rest =>
    rw [step_of_pending hp] at h
    obtain ⟨o, ho, hobs⟩ := runFetched_observes_legal h
    exact inv_of_observed_append hs ho hobs

/-- Settles O43, by cases on the next pending call. -/
theorem stepKeepsObservationsLegal : Obligations.StepKeepsObservationsLegal :=
  fun _ _ hs h => step_keeps_inv hs h

/-- Settles O42: nothing is observed at reset. -/
theorem resetMeetsTheInvariant : Obligations.ResetMeetsTheInvariant := inv_reset

end Sys2Proof.Legality
end

section
/-! SUPPORT. Proofs of the family 20_memory: the two translation tables. A frame depends on a valid index only through the
address that the operation's table gives it, so the pair aliasing of the control table is that of the frames. -/

open Sys2Proof Sys2Proof.Machine Sys2Proof.Stmt

namespace Sys2Proof.Translation

/-! ### Valid indices and their two bits -/

theorem indexOutOfRange_fin (i : Fin 4) : indexOutOfRange (i.val : Int) = false :=
  indexOutOfRange_eq_false_iff.2 (by omega)

/-- Narrowing to two bits loses nothing of a valid index (R65). -/
theorem indexBits_toNat {v : Int} (h : indexOutOfRange v = false) : ((indexBits v).toNat : Int) = v := by
  obtain rfl | rfl | rfl | rfl := index_cases (indexOutOfRange_eq_false_iff.1 h) <;> rfl

theorem indexBits_inj {v v' : Int} (h : indexOutOfRange v = false) (h' : indexOutOfRange v' = false)
    (heq : indexBits v = indexBits v') : v = v' := by
  rw [← indexBits_toNat h, ← indexBits_toNat h', heq]

/-! ### The two tables -/

theorem wiperAddress_fin (c : Fin 4) : wiperAddress (indexBits (c.val : Int)) = wiper c := by
  revert c; decide

theorem controlAddress_fin (r : Fin 4) : controlAddress (indexBits (r.val : Int)) = control r := by
  revert r; decide

/-- No two wiper channels share an address (R49, R90). -/
theorem wiperAddress_injective : Function.Injective wiperAddress := by unfold Function.Injective; decide

/-! ### The two resolvers -/

theorem resolveWiperAddress_fin (c : Fin 4) : resolveWiperAddress (c.val : Int) = .ok (wiper c) := by
  rw [resolveWiperAddress_of_valid (indexOutOfRange_fin c), wiperAddress_fin]

theorem resolveControlAddress_fin (r : Fin 4) : resolveControlAddress (r.val : Int) = .ok (control r) := by
  rw [resolveControlAddress_of_valid (indexOutOfRange_fin r), controlAddress_fin]

/-- The inversion of the wiper resolver (R92). -/
theorem resolveWiperAddress_eq_ok_iff {c : Int} {a : Nibble} :
    resolveWiperAddress c = .ok a ↔ indexOutOfRange c = false ∧ wiperAddress (indexBits c) = a := by
  cases h : indexOutOfRange c with
  | false => simp [resolveWiperAddress_of_valid h]
  | true => simp [resolveWiperAddress_of_bad h]

/-- The wiper translation is one-to-one on the channels it accepts (R49). -/
theorem resolveWiperAddress_inj {c c' : Int} {a : Nibble} (h : resolveWiperAddress c = .ok a)
    (h' : resolveWiperAddress c' = .ok a) : c = c' := by
  obtain ⟨hc, ha⟩ := resolveWiperAddress_eq_ok_iff.1 h
  obtain ⟨hc', ha'⟩ := resolveWiperAddress_eq_ok_iff.1 h'
  exact indexBits_inj hc hc' (wiperAddress_injective (ha.trans ha'.symm))

/-! ### Pair aliasing -/

/-- Two valid indices with one address give one result, errors of selector and data included (R122, R148). -/
theorem buildFrame_eq_of_operationAddress_eq {sel i j : Int} {op : Operation} {data : Option Byte}
    (hi : indexOutOfRange i = false) (hj : indexOutOfRange j = false)
    (h : operationAddress op (indexBits i) = operationAddress op (indexBits j)) :
    buildFrame sel (some op) i data = buildFrame sel (some op) j data := by
  have herr : frameErrors sel (some op) i data = frameErrors sel (some op) j data := by
    rw [frameErrors_some, frameErrors_some, hi, hj]
  have hres : resolveIndex op i = resolveIndex op j := by
    rw [resolveIndex_of_valid op hi, resolveIndex_of_valid op hj, h]
  simp only [buildFrame, composeFrame, herr, hres]

theorem operationAddress_register {op : Operation} (h : op = .writeRegister ∨ op = .readRegister) (r : BitVec 2) :
    operationAddress op r = controlAddress r := by
  obtain rfl | rfl := h <;> rfl

/-- Registers that the control table sends to one address are one register to a register operation (R49). -/
theorem buildFrame_eq_of_control_eq {op : Operation} (hop : op = .writeRegister ∨ op = .readRegister) {r r' : Fin 4}
    (h : control r = control r') (sel : Int) (data : Option Byte) :
    buildFrame sel (some op) (r.val : Int) data = buildFrame sel (some op) (r'.val : Int) data := by
  apply buildFrame_eq_of_operationAddress_eq (indexOutOfRange_fin r) (indexOutOfRange_fin r')
  rw [operationAddress_register hop, operationAddress_register hop, controlAddress_fin, controlAddress_fin, h]

/-- Settles O23, from the tables and the aliasing of registers with one address. -/
theorem translationIsByTableWithPairAliasing : Obligations.TranslationIsByTableWithPairAliasing := by
  refine ⟨resolveWiperAddress_fin, fun _ _ _ => resolveWiperAddress_inj, resolveControlAddress_fin, ?_, ?_⟩
  · intro sel op data hop
    have pair01 : control 0 = control 1 := rfl
    have pair23 : control 2 = control 3 := rfl
    exact ⟨buildFrame_eq_of_control_eq hop pair01 sel data, buildFrame_eq_of_control_eq hop pair23 sel data⟩
  · intro i hbad
    have hi : indexOutOfRange i = true := indexOutOfRange_eq_true_iff.2 hbad
    exact ⟨resolveWiperAddress_of_bad hi, resolveControlAddress_of_bad hi⟩

end Sys2Proof.Translation
end

section
/-! SUPPORT. Proofs of the family 30_encoding: the decoder against the encoder. Decoding is inverted first (bits that
decode are the bits of what they decode to); reading every encoding back then needs only which instruction is read.
The 26 frame rows are handled as the six rows of `frameInstr`: a concrete row is a frame row at one index. -/

open Sys2Proof Sys2Proof.Machine Sys2Proof.Stmt Sys2Proof.Legality Sys2Proof.Translation

namespace Sys2Proof.Encoding

/-! ### Valid operands as fields -/

theorem twoBits_cases (s : BitVec 2) : s = 0b00 ∨ s = 0b01 ∨ s = 0b10 ∨ s = 0b11 := by revert s; decide

@[simp] theorem indexBits_cast (s : BitVec 2) : indexBits (s.toNat : Int) = s := by revert s; decide

@[simp] theorem indexValid_cast (s : BitVec 2) : indexValid (s.toNat : Int) = true := by revert s; decide

/-- A valid index is the value of two bits (R25, R65). -/
theorem indexValid_iff {v : Int} : indexValid v = true ↔ ∃ s : BitVec 2, v = (s.toNat : Int) := by
  refine ⟨fun h => ⟨indexBits v, (indexBits_toNat ?_).symm⟩, ?_⟩
  · simpa [indexValid_eq_not_outOfRange] using h
  · rintro ⟨s, rfl⟩
    exact indexValid_cast s

theorem addressWrite_eq (sel : Fin 4) : addressWrite sel = addressByte (indexBits (sel.val : Int)) .write := by
  revert sel; decide

theorem addressRead_eq (sel : Fin 4) :
    addressWrite sel ||| 0x01 = addressByte (indexBits (sel.val : Int)) .read := by
  revert sel; decide

/-! ### The frame rows -/

/-- The instruction is a row of `buildFrame` with these operands: it behaves and is encoded as `frameInstr` of them, of
which it is the concrete row or the row itself. -/
structure IsFrameRow (i : Instr) (op : Operation) (selector index : Int) (data : Option Byte) : Prop where
  outcome : outcomeBy i = frameOutcome selector op index data
  wellFormed : i.wellFormed = (frameInstr op selector index data).wellFormed
  pattern : i.pattern = (frameInstr op selector index data).pattern
  canonical : i.canonical = (frameInstr op selector index data).canonical

/-- Every instruction of the bf group is a row of `buildFrame`. -/
theorem isFrameRow_of_group {i : Instr} (h : groupOf i = .bf) :
    ∃ op selector index data, IsFrameRow i op selector index data := by
  cases i
  case resolveWiper | resolveControl | addrByte | cmdWr | cmdInc | cmdDec | cmdRd | rdreq => cases h
  all_goals exact ⟨_, _, _, _, rfl, by simp [frameInstr, Instr.wellFormed, indexValid], rfl, rfl⟩

/-- A frame call is well formed exactly when validation finds no error (R123, R131). -/
theorem frameInstr_wellFormed_iff {op : Operation} {selector index : Int} {data : Option Byte} :
    (frameInstr op selector index data).wellFormed = true ↔
      indexValid selector = true ∧ indexValid index = true ∧ op.needsData = data.isSome := by
  cases op <;> cases data <;>
    simp [frameInstr, Instr.wellFormed, validWithData, validWithoutData, Operation.needsData]

theorem frameInstr_wellFormed_eq (op : Operation) (selector index : Int) (data : Option Byte) :
    (frameInstr op selector index data).wellFormed = (frameErrors selector (some op) index data).isEmpty := by
  rw [Bool.eq_iff_iff, frameInstr_wellFormed_iff, frameErrors_isEmpty_iff]
  simp [indexValid_eq_not_outOfRange]

/-- The bits of a well-formed frame call, in the byte formulas: address byte, command byte, data byte of a write. -/
theorem frameInstr_pattern (op : Operation) (s x : BitVec 2) {data : Option Byte} (hd : op.needsData = data.isSome) :
    (frameInstr op (s.toNat : Int) (x.toNat : Int) data).pattern =
      .bytes (addressByte s .write :: commandByte (operationAddress op x) op.opcode :: data.toList) := by
  cases op
  case writeWiper | writeRegister =>
    obtain ⟨d, rfl⟩ := Option.isSome_iff_exists.1 hd.symm
    simp [frameInstr, Instr.pattern, patternWrite_eq, operationAddress, Operation.indexClass, Operation.opcode]
  all_goals
    obtain rfl := Option.isNone_iff_eq_none.1 (Option.isSome_eq_false_iff.1 hd.symm)
    simp [frameInstr, Instr.pattern, patternInc_eq, patternDec_eq, patternRead_eq, operationAddress,
      Operation.indexClass, Operation.opcode]

/-! ### What an instruction puts out -/

@[simp] theorem indexOutOfRange_cast (s : BitVec 2) : indexOutOfRange (s.toNat : Int) = false := by revert s; decide

theorem indexOutOfRange_of_not_valid {v : Int} (h : indexValid v = false) : indexOutOfRange v = true := by
  simpa [indexValid_eq_not_outOfRange] using h

theorem frameOutcome_emission (op : Operation) (s x : BitVec 2) {data : Option Byte} (hd : op.needsData = data.isSome) :
    (frameOutcome (s.toNat : Int) op (x.toNat : Int) data).emission =
      some (.bytes (addressByte s .write :: commandByte (operationAddress op x) op.opcode :: data.toList)) := by
  cases data with
  | none =>
    rw [frameOutcome, buildFrame_without_data (indexOutOfRange_cast s) (indexOutOfRange_cast x) hd]
    simp [Except.map, outcomeOf, Observation.emission, Frame.bytes]
  | some d =>
    rw [frameOutcome, buildFrame_with_data d (indexOutOfRange_cast s) (indexOutOfRange_cast x) hd]
    simp [Except.map, outcomeOf, Observation.emission, Frame.bytes]

/-- The operands of a well-formed frame row as fields, and its bits in the byte formulas. -/
theorem frameRow_cases {i : Instr} (hg : groupOf i = .bf) (h : i.wellFormed = true) :
    ∃ (op : Operation) (s x : BitVec 2) (data : Option Byte), op.needsData = data.isSome ∧
      IsFrameRow i op (s.toNat : Int) (x.toNat : Int) data ∧
      i.pattern = .bytes (addressByte s .write :: commandByte (operationAddress op x) op.opcode :: data.toList) := by
  obtain ⟨op, selector, index, data, row⟩ := isFrameRow_of_group hg
  obtain ⟨hs, hx, hd⟩ := frameInstr_wellFormed_iff.1 (row.wellFormed ▸ h)
  obtain ⟨s, rfl⟩ := indexValid_iff.1 hs
  obtain ⟨x, rfl⟩ := indexValid_iff.1 hx
  exact ⟨op, s, x, data, hd, row, row.pattern.trans (frameInstr_pattern op s x hd)⟩

theorem frameRow_emission {i : Instr} (hg : groupOf i = .bf) (h : i.wellFormed = true) :
    (outcomeBy i).emission = some i.pattern := by
  obtain ⟨op, s, x, data, hd, row, hp⟩ := frameRow_cases hg h
  rw [row.outcome, hp, frameOutcome_emission op s x hd]

theorem frameRow_errors {i : Instr} (hg : groupOf i = .bf) (h : i.wellFormed = false) :
    ∃ e, outcomeBy i = .errors e := by
  obtain ⟨op, selector, index, data, row⟩ := isFrameRow_of_group hg
  have he : (frameErrors selector (some op) index data).isEmpty = false := by
    rw [← frameInstr_wellFormed_eq, ← row.wellFormed, h]
  rw [row.outcome, frameOutcome, buildFrame_of_errors he]
  exact ⟨_, rfl⟩

/-- A valid call puts out the bits of the instruction's table pattern (R65, R66, R72). -/
theorem outcomeBy_emission {i : Instr} (h : i.wellFormed = true) : (outcomeBy i).emission = some i.pattern := by
  cases i
  case resolveWiper c =>
    obtain ⟨s, rfl⟩ := indexValid_iff.1 h
    rw [outcomeBy, resolveWiperAddress_of_valid (indexOutOfRange_cast s)]
    rfl
  case resolveControl r =>
    obtain ⟨s, rfl⟩ := indexValid_iff.1 h
    rw [outcomeBy, resolveControlAddress_of_valid (indexOutOfRange_cast s)]
    rfl
  case addrByte sel d =>
    obtain ⟨s, rfl⟩ := indexValid_iff.1 h
    rw [outcomeBy, encodeAddressByte_of_valid d (indexOutOfRange_cast s), addressByte_eq_pattern]
    rfl
  case rdreq sel =>
    obtain ⟨s, rfl⟩ := indexValid_iff.1 h
    rw [outcomeBy, readRequest_of_valid (indexOutOfRange_cast s), Instr.pattern, patternReadRequest_eq]
    rfl
  case cmdInc a | cmdDec a => revert a; decide
  case cmdWr v a | cmdRd v a => cases v <;> (revert a; decide)
  all_goals exact frameRow_emission rfl h

/-- A call that is not valid ends in errors (R167). -/
theorem outcomeBy_errors {i : Instr} (h : i.wellFormed = false) : ∃ e, outcomeBy i = .errors e := by
  cases i
  case resolveWiper c =>
    exact ⟨_, by rw [outcomeBy, resolveWiperAddress_of_bad (indexOutOfRange_of_not_valid h)]; rfl⟩
  case resolveControl r =>
    exact ⟨_, by rw [outcomeBy, resolveControlAddress_of_bad (indexOutOfRange_of_not_valid h)]; rfl⟩
  case addrByte sel d =>
    exact ⟨_, by rw [outcomeBy, encodeAddressByte_of_bad d (indexOutOfRange_of_not_valid h)]; rfl⟩
  case rdreq sel =>
    exact ⟨_, by rw [outcomeBy, readRequest_of_bad (indexOutOfRange_of_not_valid h)]; rfl⟩
  case cmdWr | cmdInc | cmdDec | cmdRd => cases h
  all_goals exact frameRow_errors rfl h

/-- Settles O47, from the outcome of a valid and of an invalid call; the error set is not empty because it is legal. -/
theorem execEmitsTheEncoding : Obligations.ExecEmitsTheEncoding := by
  intro i s
  obtain ⟨t, ht, hobs⟩ := exec_observes i s
  refine ⟨t, outcomeBy i, ht, hobs, fun h => ?_, fun h => ⟨by simp [encode, h], ?_⟩⟩
  · exact ⟨i.pattern, encode_eq_some.2 ⟨h, rfl⟩, outcomeBy_emission h⟩
  · obtain ⟨e, he⟩ := outcomeBy_errors h
    have hlegal := outcomeBy_legal i
    rw [he] at hlegal
    exact ⟨e, he, by simpa [Observation.legal] using hlegal⟩

/-! ### From the bits to the instruction -/

theorem encode_writeAt (s : BitVec 2) (d : Byte) (target : TargetRegister) :
    encode (writeAt (s.toNat : Int) d target) =
      some (.bytes [addressByte s .write, commandByte target.address 0b00, d]) := by
  rw [encode_eq_some]
  cases target <;>
    simp [writeAt, Instr.wellFormed, Instr.pattern, patternWrite_eq, validWithData, TargetRegister.address]

theorem encode_readAt (s : BitVec 2) (target : TargetRegister) :
    encode (readAt (s.toNat : Int) target) = some (.bytes [addressByte s .write, commandByte target.address 0b11]) := by
  rw [encode_eq_some]
  cases target <;>
    simp [readAt, Instr.wellFormed, Instr.pattern, patternRead_eq, validWithoutData, TargetRegister.address]

theorem encode_of_commandFrameAt {s opcode : BitVec 2} {target : TargetRegister} {i : Instr}
    (h : commandFrameAt (s.toNat : Int) opcode target = .ok i) :
    encode i = some (.bytes [addressByte s .write, commandByte target.address opcode]) := by
  obtain rfl | rfl | rfl | rfl := twoBits_cases opcode
  · cases h
  · rw [encode_eq_some]
    cases target <;> cases h <;>
      simp [Instr.wellFormed, Instr.pattern, patternInc_eq, validWithoutData, TargetRegister.address]
  · rw [encode_eq_some]
    cases target <;> cases h <;>
      simp [Instr.wellFormed, Instr.pattern, patternDec_eq, validWithoutData, TargetRegister.address]
  · cases h
    exact encode_readAt s target

theorem decodeCommandFrame_lowBits (selector : Int) {b1 : Byte} (tail : List Byte) (h : decodeCommandByte b1 = none) :
    decodeCommandFrame selector b1 tail = .error .commandLowBitsSet := by
  simp [decodeCommandFrame, h]

theorem decodeCommandFrame_notReached (selector : Int) {a : Nibble} (opcode : BitVec 2) (tail : List Byte)
    (h : targetAt a = none) :
    decodeCommandFrame selector (commandByte a opcode) tail = .error .addressNotReached := by
  simp [decodeCommandFrame, h]

theorem encode_of_decodeCommandFrame {s : BitVec 2} {b1 : Byte} {tail : List Byte} {i : Instr}
    (h : decodeCommandFrame (s.toNat : Int) b1 tail = .ok i) :
    encode i = some (.bytes (addressByte s .write :: b1 :: tail)) := by
  cases hb : decodeCommandByte b1 with
  | none => simp [decodeCommandFrame_lowBits _ tail hb] at h
  | some fields =>
    obtain ⟨a, opcode⟩ := fields
    obtain rfl := eq_commandByte_of_decode hb
    cases ht : targetAt a with
    | none => simp [decodeCommandFrame_notReached _ opcode tail ht] at h
    | some target =>
      obtain rfl := targetAt_eq_some_iff.1 ht
      match tail with
      | [] => exact encode_of_commandFrameAt (decodeCommandFrame_nil _ target opcode ▸ h)
      | [d] =>
        rw [decodeCommandFrame_single] at h
        split at h
        · next hop =>
          cases h
          exact hop ▸ encode_writeAt s d target
        · cases h
      | d :: d' :: tail => simp [decodeCommandFrame_long] at h

theorem encode_commandByteInstr (a : Nibble) (opcode : BitVec 2) :
    encode (commandByteInstr a opcode) = some (.bytes [commandByte a opcode]) := by
  revert a opcode; decide

theorem encode_addrByte (s : BitVec 2) (d : Direction) :
    encode (.addrByte (s.toNat : Int) d) = some (.bytes [addressByte s d]) := by
  simp [encode, Instr.wellFormed, Instr.pattern, pattern8, addressByte_eq_pattern]

theorem encode_rdreq (s : BitVec 2) : encode (.rdreq (s.toNat : Int)) = some (.bytes [addressByte s .read]) := by
  simp [encode, Instr.wellFormed, Instr.pattern, patternReadRequest_eq]

theorem encode_of_decodeSingleByte {b : Byte} {i : Instr} (h : decodeSingleByte b = .ok i) :
    encode i = some (.bytes [b]) := by
  unfold decodeSingleByte at h
  split at h
  · next s hb =>
    cases h
    exact eq_addressByte_of_decode hb ▸ encode_rdreq s
  · next s hb =>
    cases h
    exact eq_addressByte_of_decode hb ▸ encode_addrByte s .write
  · split at h
    · next a opcode hb =>
      cases h
      exact eq_commandByte_of_decode hb ▸ encode_commandByteInstr a opcode
    · cases h

theorem encode_of_decodeNibble {a : Nibble} {i : Instr} (h : decodeNibble a = .ok i) : encode i = some (.nibble a) := by
  cases ht : targetAt a with
  | none => simp [decodeNibble, ht] at h
  | some target =>
    obtain rfl := targetAt_eq_some_iff.1 ht
    cases target <;> cases h <;> rfl

theorem decode_cons_of_notAnAddressByte {b0 : Byte} (b1 : Byte) (tail : List Byte) (h : decodeAddressByte b0 = none) :
    decode (.bytes (b0 :: b1 :: tail)) = .error .notAnAddressByte := by
  simp [decode, h]

theorem decode_readByte_cons (s : BitVec 2) (b1 : Byte) (tail : List Byte) :
    decode (.bytes (addressByte s .read :: b1 :: tail)) = .error .byteAfterReadRequest := by
  simp [decode]

/-- Bits that decode to an instruction are the bits of that instruction: the inversion of the decoder (R73). -/
theorem encode_of_decode {e : Emission} {i : Instr} (h : decode e = .ok i) : encode i = some e := by
  match e with
  | .nibble a => exact encode_of_decodeNibble h
  | .bytes [] => cases h
  | .bytes [b] => exact encode_of_decodeSingleByte h
  | .bytes (b0 :: b1 :: tail) =>
    cases hb : decodeAddressByte b0 with
    | none =>
      rw [decode_cons_of_notAnAddressByte b1 tail hb] at h
      cases h
    | some fields =>
      obtain ⟨s, d⟩ := fields
      obtain rfl := eq_addressByte_of_decode hb
      cases d with
      | read =>
        rw [decode_readByte_cons] at h
        cases h
      | write =>
        rw [decode_addressByte_cons] at h
        exact encode_of_decodeCommandFrame h

/-- Settles O46: an instruction with an encoding is well formed. -/
theorem decodedBitsEncodeBack : Obligations.DecodedBitsEncodeBack :=
  fun _ _ h => ⟨(encode_eq_some.1 (encode_of_decode h)).1, encode_of_decode h⟩

/-- The bits of a frame call decode to the concrete row at the address of its index (R69). -/
theorem decode_frameInstr (op : Operation) (s x : BitVec 2) {data : Option Byte} (hd : op.needsData = data.isSome) :
    decode (.bytes (addressByte s .write :: commandByte (operationAddress op x) op.opcode :: data.toList)) =
      .ok (frameInstr op (s.toNat : Int) (x.toNat : Int) data).canonical := by
  rw [decode_addressByte_cons]
  cases op
  case writeWiper | writeRegister =>
    obtain ⟨d, rfl⟩ := Option.isSome_iff_exists.1 hd.symm
    obtain rfl | rfl | rfl | rfl := twoBits_cases x <;> rfl
  all_goals
    obtain rfl := Option.isNone_iff_eq_none.1 (Option.isSome_eq_false_iff.1 hd.symm)
    obtain rfl | rfl | rfl | rfl := twoBits_cases x <;> rfl

theorem decode_pattern {i : Instr} (h : i.wellFormed = true) : decode i.pattern = .ok i.canonical := by
  cases i
  case resolveWiper c =>
    obtain ⟨s, rfl⟩ := indexValid_iff.1 h
    revert s; decide
  case resolveControl r =>
    obtain ⟨s, rfl⟩ := indexValid_iff.1 h
    revert s; decide
  case addrByte sel d =>
    obtain ⟨s, rfl⟩ := indexValid_iff.1 h
    cases d <;> (revert s; decide)
  case rdreq sel =>
    obtain ⟨s, rfl⟩ := indexValid_iff.1 h
    revert s; decide
  case cmdInc a | cmdDec a => revert a; decide
  case cmdWr v a | cmdRd v a => cases v <;> (revert a; decide)
  all_goals
    obtain ⟨op, s, x, data, hd, row, hp⟩ := frameRow_cases rfl h
    rw [hp, row.canonical, decode_frameInstr op s x hd]

/-- Settles O44: what is read back has the same encoding, because bits that decode encode back. -/
theorem decodeReadsBackEveryEncoding : Obligations.DecodeReadsBackEveryEncoding := by
  intro i e he
  obtain ⟨hwf, rfl⟩ := encode_eq_some.1 he
  have hdec := decode_pattern hwf
  exact ⟨hdec, encode_of_decode hdec⟩

/-- Settles O45: the concrete rows and RDREQ are well formed and their own canonical rows. -/
theorem concreteFramesRoundTrip : Obligations.ConcreteFramesRoundTrip := by
  intro sel d
  have key : ∀ i ∈ concreteRows (sel.val : Int) d, i.wellFormed = true ∧ i.canonical = i := by
    have hs : indexValid (sel.val : Int) = true := by revert sel; decide
    simp [concreteRows, Instr.wellFormed, Instr.canonical, validWithData, validWithoutData, hs]
  intro i hi
  obtain ⟨hwf, hcan⟩ := key i hi
  exact ⟨i.pattern, encode_eq_some.2 ⟨hwf, rfl⟩, (decode_pattern hwf).trans (by rw [hcan])⟩

/-! ### Foreign bits -/

theorem decodeAddressByte_eq_none_iff {b : Byte} : decodeAddressByte b = none ↔ b.extractLsb' 3 5 ≠ 0b01011#5 := by
  simp [decodeAddressByte]

theorem decodeCommandByte_eq_none_iff {b : Byte} : decodeCommandByte b = none ↔ b.extractLsb' 0 2 ≠ 0b00#2 := by
  simp [decodeCommandByte]

/-- The target map has exactly the addresses that the resolvers answer (R27, R31). -/
theorem targetAt_eq_none_iff {a : Nibble} : targetAt a = none ↔ isReachedAddress a = false := by
  revert a; decide

theorem eq_address_of_reached {a : Nibble} (h : isReachedAddress a = true) :
    ∃ target : TargetRegister, a = target.address := by
  cases ht : targetAt a with
  | none => simp [targetAt_eq_none_iff.1 ht] at h
  | some target => exact ⟨target, targetAt_eq_some_iff.1 ht⟩

theorem decodeSingleByte_eq_error_iff {b : Byte} {r : DecodeReject} :
    decodeSingleByte b = .error r ↔
      decodeAddressByte b = none ∧ decodeCommandByte b = none ∧ r = .notAByteOfTheBlock := by
  unfold decodeSingleByte
  split
  · next h => simp [h]
  · next h => simp [h]
  · next h => split <;> next h' => simp [h, h', eq_comm]

theorem decode_addressWrite_cons (sel : Fin 4) (b1 : Byte) (tail : List Byte) :
    decode (.bytes (addressWrite sel :: b1 :: tail)) = decodeCommandFrame (sel.val : Int) b1 tail := by
  rw [addressWrite_eq, decode_addressByte_cons, indexBits_toNat (indexOutOfRange_fin sel)]

/-- Settles O48, clause by clause in the decoder's reading order. -/
theorem foreignBytesAreRefusedByName : Obligations.ForeignBytesAreRefusedByName := by
  unfold Obligations.ForeignBytesAreRefusedByName
  simp only [decode_addressWrite_cons, ← commandByte_eq_pattern]
  refine ⟨rfl, ?_, ?_, ?_, ?_, ?_, ?_, ?_, ?_, ?_, ?_, ?_, ?_⟩
  · intro a ha
    simp [decode, decodeNibble, targetAt_eq_none_iff.2 ha]
  · intro b h h'
    exact decodeSingleByte_eq_error_iff.2
      ⟨decodeAddressByte_eq_none_iff.2 h, decodeCommandByte_eq_none_iff.2 h', rfl⟩
  · intro b hb
    cases hd : decodeSingleByte b with
    | ok i => exact ⟨i, hd⟩
    | error r =>
      obtain ⟨ha, hc, -⟩ := decodeSingleByte_eq_error_iff.1 hd
      exact absurd hb (not_or.2 ⟨decodeAddressByte_eq_none_iff.1 ha, decodeCommandByte_eq_none_iff.1 hc⟩)
  · decide
  · intro b0 b1 tail h
    exact decode_cons_of_notAnAddressByte b1 tail (decodeAddressByte_eq_none_iff.2 h)
  · intro sel b1 tail
    rw [addressRead_eq, decode_readByte_cons]
  · intro sel b1 tail h
    exact decodeCommandFrame_lowBits _ tail (decodeCommandByte_eq_none_iff.2 h)
  · intro sel a opc tail h
    exact decodeCommandFrame_notReached _ opc tail (targetAt_eq_none_iff.2 h)
  · intro sel a h
    obtain ⟨target, rfl⟩ := eq_address_of_reached h
    exact decodeCommandFrame_nil _ target 0b00
  · intro sel a opc d h hop
    obtain ⟨target, rfl⟩ := eq_address_of_reached h
    exact (decodeCommandFrame_single _ target opc d).trans (if_neg hop)
  · intro sel a opc d d' tail h
    obtain ⟨target, rfl⟩ := eq_address_of_reached h
    exact decodeCommandFrame_long _ target opc d d' tail
  · rintro sel a opc (rfl | rfl) (rfl | rfl) <;> rfl

/-! ### Streams of frames -/

/-- The length rule cuts a legal frame off a stream, whatever follows it (R71). -/
theorem splitStream_legal_append {f : Frame} (h : f.legal = true) (rest : List Byte) :
    splitStream (f.bytes ++ rest) = (splitStream rest).map (f :: ·) := by
  cases f with
  | addressOnly b0 =>
    simp only [Frame.legal, Bool.and_eq_true, hasReadBit, decide_eq_true_eq] at h
    obtain ⟨-, hread⟩ := h
    exact splitStream_addressOnly rest hread
  | command b0 b1 =>
    simp only [Frame.legal, Bool.and_eq_true, Bool.not_eq_true', hasReadBit, decide_eq_false_iff_not] at h
    obtain ⟨⟨⟨-, hwrite⟩, -⟩, hop⟩ := h
    refine splitStream_command rest hwrite fun h0 => ?_
    simp [h0] at hop
  | commandData b0 b1 d =>
    simp only [Frame.legal, Bool.and_eq_true, Bool.not_eq_true', hasReadBit, decide_eq_false_iff_not,
      beq_iff_eq] at h
    obtain ⟨⟨⟨⟨-, hwrite⟩, -⟩, hop⟩, -⟩ := h
    exact splitStream_commandData d rest hwrite hop

/-- Settles O51, by induction on the list of frames. -/
theorem streamOfFramesSplitsUniquely : Obligations.StreamOfFramesSplitsUniquely := by
  intro fs
  induction fs with
  | nil => exact fun _ => rfl
  | cons f fs ih =>
    intro h
    obtain ⟨hf, hfs⟩ := List.forall_mem_cons.1 h
    rw [byteStream_cons, splitStream_legal_append hf, ih hfs]
    rfl

/-! ### Range checks at the ports -/

/-- The values of an index input are exactly the integers it can carry (R7, R80). -/
theorem representable_iff_indexOfRaw {w : Nat} {v : Int} :
    Config.representable w v ↔ ∃ x : BitVec w, indexOfRaw x = v := by
  constructor
  · rintro ⟨h0, hw⟩
    lift v to ℕ using h0
    have hw' : v < 2 ^ w := by exact_mod_cast hw
    exact ⟨BitVec.ofNatLT v hw', rfl⟩
  · rintro ⟨x, rfl⟩
    have hlt : (x.toNat : Int) < 2 ^ w := by exact_mod_cast x.isLt
    exact ⟨Int.natCast_nonneg x.toNat, hlt⟩

/-- On an unsigned input the range check is the test against 3 of the whole value (R161). -/
theorem indexOutOfRange_indexOfRaw {w : Nat} (x : BitVec w) :
    indexOutOfRange (indexOfRaw x) = true ↔ 3 < x.toNat := by
  rw [indexOutOfRange_eq_true_iff, indexOfRaw]
  omega

theorem wiperPins_error_iff (c : Int) : (WiperPins.out ⟨c⟩).errOutOfRange = 1 ↔ indexOutOfRange c = true := by
  cases h : indexOutOfRange c with
  | false => simp [WiperPins.out, resolveWiperAddress_of_valid h, renderAddress]
  | true => simp [WiperPins.out, resolveWiperAddress_of_bad h, renderAddress]

theorem controlPins_error_iff (r : Int) : (ControlPins.out ⟨r⟩).errOutOfRange = 1 ↔ indexOutOfRange r = true := by
  cases h : indexOutOfRange r with
  | false => simp [ControlPins.out, resolveControlAddress_of_valid h, renderAddress]
  | true => simp [ControlPins.out, resolveControlAddress_of_bad h, renderAddress]

theorem addressPins_error_iff (sel : Int) (d : BitVec 1) :
    (AddressPins.out ⟨sel, d⟩).errOutOfRange = 1 ↔ indexOutOfRange sel = true := by
  cases h : indexOutOfRange sel with
  | false => simp [AddressPins.out, encodeAddressByte_of_valid _ h, renderAddressByte]
  | true => simp [AddressPins.out, encodeAddressByte_of_bad _ h, renderAddressByte]

/-- Settles O31: each error wire is the range check of the input's whole value. -/
theorem rangeChecksUseTheWholeInput : Obligations.RangeChecksUseTheWholeInput := by
  refine ⟨fun w v => representable_iff_indexOfRaw, fun w x d => ⟨?_, ?_, ?_⟩⟩
  · exact (wiperPins_error_iff _).trans (indexOutOfRange_indexOfRaw x)
  · exact (controlPins_error_iff _).trans (indexOutOfRange_indexOfRaw x)
  · exact (addressPins_error_iff _ d).trans (indexOutOfRange_indexOfRaw x)

/-! ### The fields of the two bytes -/

/-- Settles O7: the command byte is its two fields and two zeros. -/
theorem opcodeFieldOfEveryOperation : Obligations.OpcodeFieldOfEveryOperation := by
  intro op a
  have hlow : isCommandByte (commandByte a op.opcode) = true := isCommandByte_commandByte a op.opcode
  refine ⟨commandByte a op.opcode, rfl, commandByte_addressField a op.opcode, of_decide_eq_true hlow, ?_⟩
  rw [commandByte_opcodeField]
  cases op <;> rfl

/-- Settles O25: as bit patterns, both bytes are their fields side by side. -/
theorem orEqualsSumInBothAssemblies : Obligations.OrEqualsSumInBothAssemblies := by
  constructor
  · intro sel d
    cases d <;> (revert sel; decide)
  · intro a opc
    revert a opc; decide

/-! ### The concrete rows -/

/-- A row without data puts out the frame of its command byte. -/
theorem exec_observes_command {i : Instr} {op : Operation} {sel index : Fin 4} {cmd : Byte}
    (hi : outcomeBy i = frameOutcome (sel.val : Int) op (index.val : Int) none) (hd : op.needsData = false)
    (hcmd : commandByte (operationAddress op (indexBits (index.val : Int))) op.opcode = cmd) (s : State) :
    ∃ t, exec i s = .next t ∧ t.observed = s.observed ++ [.frame (.command (addressWrite sel) cmd)] := by
  obtain ⟨t, ht, hobs⟩ := exec_observes i s
  refine ⟨t, ht, hobs.trans ?_⟩
  rw [hi, frameOutcome, buildFrame_without_data (indexOutOfRange_fin sel) (indexOutOfRange_fin index) hd, hcmd,
    ← addressWrite_eq]
  rfl

/-- A row with data puts out the frame of its command byte and the data byte. -/
theorem exec_observes_commandData {i : Instr} {op : Operation} {sel index : Fin 4} {cmd d : Byte}
    (hi : outcomeBy i = frameOutcome (sel.val : Int) op (index.val : Int) (some d)) (hd : op.needsData = true)
    (hcmd : commandByte (operationAddress op (indexBits (index.val : Int))) op.opcode = cmd) (s : State) :
    ∃ t, exec i s = .next t ∧ t.observed = s.observed ++ [.frame (.commandData (addressWrite sel) cmd d)] := by
  obtain ⟨t, ht, hobs⟩ := exec_observes i s
  refine ⟨t, ht, hobs.trans ?_⟩
  rw [hi, frameOutcome, buildFrame_with_data d (indexOutOfRange_fin sel) (indexOutOfRange_fin index) hd, hcmd,
    ← addressWrite_eq]
  rfl

/-- Settles O14: the rows at wiper indices 0 to 3, by operation. -/
theorem concreteIncrementAndDecrementFrames : Obligations.ConcreteIncrementAndDecrementFrames :=
  ⟨fun s _ => exec_observes_command (op := .increment) (index := 0) rfl rfl rfl s,
    fun s _ => exec_observes_command (op := .increment) (index := 1) rfl rfl rfl s,
    fun s _ => exec_observes_command (op := .increment) (index := 2) rfl rfl rfl s,
    fun s _ => exec_observes_command (op := .increment) (index := 3) rfl rfl rfl s,
    fun s _ => exec_observes_command (op := .decrement) (index := 0) rfl rfl rfl s,
    fun s _ => exec_observes_command (op := .decrement) (index := 1) rfl rfl rfl s,
    fun s _ => exec_observes_command (op := .decrement) (index := 2) rfl rfl rfl s,
    fun s _ => exec_observes_command (op := .decrement) (index := 3) rfl rfl rfl s⟩

/-- Settles O15: the wiper rows at 0 to 3 and the register rows at the lower index of each pair. -/
theorem concreteWriteFrames : Obligations.ConcreteWriteFrames :=
  ⟨fun s _ _ => exec_observes_commandData (op := .writeWiper) (index := 0) rfl rfl rfl s,
    fun s _ _ => exec_observes_commandData (op := .writeWiper) (index := 1) rfl rfl rfl s,
    fun s _ _ => exec_observes_commandData (op := .writeWiper) (index := 2) rfl rfl rfl s,
    fun s _ _ => exec_observes_commandData (op := .writeWiper) (index := 3) rfl rfl rfl s,
    fun s _ _ => exec_observes_commandData (op := .writeRegister) (index := 0) rfl rfl rfl s,
    fun s _ _ => exec_observes_commandData (op := .writeRegister) (index := 2) rfl rfl rfl s⟩

/-- Settles O16: the wiper rows at 0 to 3 and the register rows at the lower index of each pair. -/
theorem concreteReadFrames : Obligations.ConcreteReadFrames :=
  ⟨fun s _ => exec_observes_command (op := .readWiper) (index := 0) rfl rfl rfl s,
    fun s _ => exec_observes_command (op := .readWiper) (index := 1) rfl rfl rfl s,
    fun s _ => exec_observes_command (op := .readWiper) (index := 2) rfl rfl rfl s,
    fun s _ => exec_observes_command (op := .readWiper) (index := 3) rfl rfl rfl s,
    fun s _ => exec_observes_command (op := .readRegister) (index := 0) rfl rfl rfl s,
    fun s _ => exec_observes_command (op := .readRegister) (index := 2) rfl rfl rfl s⟩

/-! ### Requests -/

theorem fetch_bf {p : FramePins} {op : Operation} (h : operationOfCode p.operation = some op) :
    fetch (.bf p) = .instr (frameInstr op p.selector p.index p.data) := by
  simp [fetch, h]

theorem fetch_ec {p : CommandPins} {op : Operation} (h : operationOfCode p.operation = some op) :
    fetch (.ec p) = .instr (commandInstr op p.memAddr) := by
  simp [fetch, h]

theorem fetch_emitted {e : Emission} {i : Instr} (h : decode e = .ok i) : fetch (.emitted e) = .instr i := by
  simp [fetch, h]

theorem decodeTableWord_eq_some_iff {nbits w : Nat} {i : Instr} :
    decodeTableWord nbits w = some i ↔ decode (emissionOfTableWord nbits w) = .ok i := by
  cases h : decode (emissionOfTableWord nbits w) <;> simp [decodeTableWord, h]

/-- Settles O28: each port code is the code of its operation or direction. -/
theorem portCodesNameTheOperations : Obligations.PortCodesNameTheOperations :=
  ⟨fun _ _ _ => ⟨fetch_bf (op := .increment) rfl, fetch_bf (op := .decrement) rfl, fetch_bf (op := .writeWiper) rfl,
      fetch_bf (op := .writeRegister) rfl, fetch_bf (op := .readWiper) rfl, fetch_bf (op := .readRegister) rfl⟩,
    fun _ => ⟨fetch_ec (op := .increment) rfl, fetch_ec (op := .decrement) rfl, fetch_ec (op := .writeWiper) rfl,
      fetch_ec (op := .writeRegister) rfl, fetch_ec (op := .readWiper) rfl, fetch_ec (op := .readRegister) rfl⟩,
    fun _ => ⟨rfl, rfl⟩, fun _ => ⟨rfl, rfl⟩⟩

theorem step_of_fetch {s : State} {r : Request} {rest : List Request} {i : Instr} (hp : s.pending = r :: rest)
    (hf : fetch r = .instr i) : step s = exec i { s with pending := rest } := by
  rw [step_of_pending hp, hf]
  rfl

/-- Settles O36: the step fetches the head of the list, and a table word put there is taken off again. -/
theorem stepRunsTheNextCall : Obligations.StepRunsTheNextCall := by
  refine ⟨fun s r rest i => step_of_fetch, fun i => rfl, fun e i => fetch_emitted, fun s nbits w i h => ?_⟩
  have hf := fetch_emitted (decodeTableWord_eq_some_iff.1 h)
  exact step_of_fetch (withFetchWord_pending s nbits w) hf

end Sys2Proof.Encoding
end

section
/-! SUPPORT. Proofs of the family 40_address_resolver: the two resolvers as calls, and the outputs of the four leaf groups at
the ports. Each output is settled on the value its index input stands for, so the width of the input plays no part. -/

open Sys2Proof Sys2Proof.Machine Sys2Proof.Stmt Sys2Proof.Translation Sys2Proof.Encoding

namespace Sys2Proof.Resolver

/-! ### What a call adds to the observation -/

theorem exec_observes_of_outcome {i : Instr} {o : Observation} (h : outcomeBy i = o) (s : State) :
    ∃ t, exec i s = .next t ∧ t.observed = s.observed ++ [o] := h ▸ exec_observes i s

/-- The outcome of a call does not depend on the state it is made in (R146). -/
theorem exec_observes_same_outcome (i : Instr) (s s' : State) :
    ∃ t t' o, exec i s = .next t ∧ exec i s' = .next t' ∧ t.observed = s.observed ++ [o] ∧
      t'.observed = s'.observed ++ [o] := by
  obtain ⟨t, ht, hobs⟩ := exec_observes i s
  obtain ⟨t', ht', hobs'⟩ := exec_observes i s'
  exact ⟨t, t', outcomeBy i, ht, ht', hobs, hobs'⟩

/-! ### The outcomes of the two resolver calls -/

theorem outcomeBy_resolveWiper_fin (c : Fin 4) : outcomeBy (.resolveWiper (c.val : Int)) = .address (wiper c) := by
  rw [outcomeBy, resolveWiperAddress_fin]
  rfl

theorem outcomeBy_resolveWiper_of_bad {c : Int} (h : bad c) : outcomeBy (.resolveWiper c) = .errors ⟨true, false⟩ := by
  rw [outcomeBy, resolveWiperAddress_of_bad (indexOutOfRange_eq_true_iff.2 h)]
  rfl

theorem outcomeBy_resolveControl_fin (r : Fin 4) :
    outcomeBy (.resolveControl (r.val : Int)) = .address (control r) := by
  rw [outcomeBy, resolveControlAddress_fin]
  rfl

theorem outcomeBy_resolveControl_of_bad {r : Int} (h : bad r) :
    outcomeBy (.resolveControl r) = .errors ⟨true, false⟩ := by
  rw [outcomeBy, resolveControlAddress_of_bad (indexOutOfRange_eq_true_iff.2 h)]
  rfl

/-- Settles O1, from the outcomes on the table's channels and on all others. -/
theorem resolveWiperAddressAnswersTheTable : Obligations.ResolveWiperAddressAnswersTheTable :=
  ⟨fun s c => exec_observes_of_outcome (outcomeBy_resolveWiper_fin c) s,
    fun s _ hbad => exec_observes_of_outcome (outcomeBy_resolveWiper_of_bad hbad) s,
    fun c => (wiperPins_error_iff c).trans indexOutOfRange_eq_true_iff⟩

/-- Settles O2, from the outcomes on the table's registers and on all others. -/
theorem resolveControlAddressAnswersTheTable : Obligations.ResolveControlAddressAnswersTheTable :=
  ⟨fun s r => exec_observes_of_outcome (outcomeBy_resolveControl_fin r) s,
    fun s _ hbad => exec_observes_of_outcome (outcomeBy_resolveControl_of_bad hbad) s,
    fun r => (controlPins_error_iff r).trans indexOutOfRange_eq_true_iff⟩

/-- Settles O24: the range check decides which of the two a resolver gives, and no call's outcome reads the state. -/
theorem resolversAreTotalAndNeverInvalid : Obligations.ResolversAreTotalAndNeverInvalid := by
  refine ⟨fun i => ?_, fun i => exec_observes_same_outcome (.resolveWiper i),
    fun i => exec_observes_same_outcome (.resolveControl i)⟩
  cases h : indexOutOfRange i with
  | false => exact ⟨.inl ⟨_, resolveWiperAddress_of_valid h⟩, .inl ⟨_, resolveControlAddress_of_valid h⟩⟩
  | true => exact ⟨.inr (resolveWiperAddress_of_bad h), .inr (resolveControlAddress_of_bad h)⟩

/-! ### The outputs of a valid input -/

theorem wiperPins_out_fin (c : Fin 4) : WiperPins.out ⟨(c.val : Int)⟩ = ⟨wiper c, 0⟩ := by
  rw [WiperPins.out, resolveWiperAddress_fin]
  rfl

theorem controlPins_out_fin (r : Fin 4) : ControlPins.out ⟨(r.val : Int)⟩ = ⟨control r, 0⟩ := by
  rw [ControlPins.out, resolveControlAddress_fin]
  rfl

theorem addressPins_out_fin (sel : Fin 4) (d : BitVec 1) :
    AddressPins.out ⟨(sel.val : Int), d⟩ = ⟨addressByte (indexBits (sel.val : Int)) (.ofBit d), 0⟩ := by
  rw [AddressPins.out, encodeAddressByte_of_valid _ (indexOutOfRange_fin sel)]
  rfl

theorem addressPins_out_write (sel : Fin 4) : AddressPins.out ⟨(sel.val : Int), 0⟩ = ⟨addressWrite sel, 0⟩ := by
  rw [addressPins_out_fin, addressWrite_eq]
  rfl

theorem addressPins_out_read (sel : Fin 4) : AddressPins.out ⟨(sel.val : Int), 1⟩ = ⟨addressWrite sel ||| 0x01, 0⟩ := by
  rw [addressPins_out_fin, addressRead_eq]
  rfl

/-! ### The command byte of each opcode, and the outputs of the command group -/

theorem commandByte_write (a : Nibble) : commandByte a 0b00 = a.setWidth 8 <<< 4 := BitVec.or_zero

theorem commandByte_increment (a : Nibble) : commandByte a 0b01 = a.setWidth 8 <<< 4 ||| 0x04 := rfl

theorem commandByte_decrement (a : Nibble) : commandByte a 0b10 = a.setWidth 8 <<< 4 ||| 0x08 := rfl

theorem commandByte_read (a : Nibble) : commandByte a 0b11 = a.setWidth 8 <<< 4 ||| 0x0C := rfl

theorem commandPins_out_of_operation {code : BitVec 3} {op : Operation} {a : Nibble} {b : Byte}
    (hop : operationOfCode code = some op) (hb : commandByte a op.opcode = b) : CommandPins.out ⟨code, a⟩ = ⟨b, 0⟩ := by
  simp [CommandPins.out, hop, encodeCommand, renderCommand, hb]

theorem commandPins_error_of_reserved {code : BitVec 3} (h : operationOfCode code = none) (a : Nibble) :
    (CommandPins.out ⟨code, a⟩).errInvalidOperation = 1 := by
  simp [CommandPins.out, h, encodeCommand, renderCommand, ErrorSet.single]

/-- Settles O55: the index groups by the value of their input, the command group by its operation code. -/
theorem leafOutputsShowTheirResults : Obligations.LeafOutputsShowTheirResults := by
  refine ⟨fun w x k hx => ?_, fun w x d hx => ?_, fun a => ?_⟩
  · have hk : indexOfRaw x = (k.val : Int) := congrArg Nat.cast hx
    simp only [RawWiperIn.pins, RawControlIn.pins, RawAddressIn.pins, hk]
    exact ⟨wiperPins_out_fin k, controlPins_out_fin k, addressPins_out_write k, addressPins_out_read k⟩
  · have hbad : indexOutOfRange (indexOfRaw x) = true := (indexOutOfRange_indexOfRaw x).2 hx
    exact ⟨(wiperPins_error_iff _).2 hbad, (controlPins_error_iff _).2 hbad, (addressPins_error_iff _ d).2 hbad⟩
  · exact ⟨commandPins_out_of_operation (op := .increment) rfl (commandByte_increment a),
      commandPins_out_of_operation (op := .decrement) rfl (commandByte_decrement a),
      commandPins_out_of_operation (op := .writeWiper) rfl (commandByte_write a),
      commandPins_out_of_operation (op := .writeRegister) rfl (commandByte_write a),
      commandPins_out_of_operation (op := .readWiper) rfl (commandByte_read a),
      commandPins_out_of_operation (op := .readRegister) rfl (commandByte_read a),
      commandPins_error_of_reserved rfl a, commandPins_error_of_reserved rfl a⟩

end Sys2Proof.Resolver
end

section
/-! SUPPORT. Proofs of the family 41_device_address_encoder: the address byte as a call, as the read-request frame, and as the
first byte of every frame that `buildFrame` gives. -/

open Sys2Proof Sys2Proof.Machine Sys2Proof.Stmt Sys2Proof.Translation Sys2Proof.Encoding Sys2Proof.Resolver

namespace Sys2Proof.AddressEncoder

/-! ### The outcomes of the two address-byte calls -/

theorem outcomeBy_addrByte_fin (sel : Fin 4) (d : Direction) :
    outcomeBy (.addrByte (sel.val : Int) d) = .byte (addressByte (indexBits (sel.val : Int)) d) := by
  rw [outcomeBy, encodeAddressByte_of_valid d (indexOutOfRange_fin sel)]
  rfl

theorem outcomeBy_addrByte_write (sel : Fin 4) :
    outcomeBy (.addrByte (sel.val : Int) .write) = .byte (addressWrite sel) := by
  rw [outcomeBy_addrByte_fin, addressWrite_eq]

theorem outcomeBy_addrByte_read (sel : Fin 4) :
    outcomeBy (.addrByte (sel.val : Int) .read) = .byte (addressWrite sel ||| 0x01) := by
  rw [outcomeBy_addrByte_fin, addressRead_eq]

theorem outcomeBy_addrByte_of_bad {sel : Int} (d : Direction) (h : bad sel) :
    outcomeBy (.addrByte sel d) = .errors ⟨true, false⟩ := by
  rw [outcomeBy, encodeAddressByte_of_bad d (indexOutOfRange_eq_true_iff.2 h)]
  rfl

theorem outcomeBy_rdreq_fin (sel : Fin 4) :
    outcomeBy (.rdreq (sel.val : Int)) = .frame (.addressOnly (addressWrite sel ||| 0x01)) := by
  rw [outcomeBy, readRequest_of_valid (indexOutOfRange_fin sel), addressRead_eq]
  rfl

theorem outcomeBy_rdreq_of_bad {sel : Int} (h : bad sel) : outcomeBy (.rdreq sel) = .errors ⟨true, false⟩ := by
  rw [outcomeBy, readRequest_of_bad (indexOutOfRange_eq_true_iff.2 h)]
  rfl

/-! ### The first byte of a built frame -/

/-- A valid index is one of four, as the statements count them (R25). -/
theorem exists_fin_of_valid {v : Int} (h : indexOutOfRange v = false) : ∃ k : Fin 4, v = (k.val : Int) :=
  ⟨(indexBits v).toFin, (indexBits_toNat h).symm⟩

/-- A built frame is the write address byte of its selector, one command byte and at most one data byte (R102, R130). -/
theorem buildFrame_ok_address {selector index : Int} {operation : Option Operation} {data : Option Byte} {f : Frame}
    (h : buildFrame selector operation index data = .ok f) :
    ∃ k : Fin 4, selector = (k.val : Int) ∧
      ∃ b1, f = .command (addressWrite k) b1 ∨ ∃ d, f = .commandData (addressWrite k) b1 d := by
  obtain ⟨op, -, hs, -, shape⟩ := buildFrame_ok_cases h
  obtain ⟨k, rfl⟩ := exists_fin_of_valid hs
  rw [← addressWrite_eq] at shape
  refine ⟨k, rfl, commandByte (operationAddress op (indexBits index)) op.opcode, ?_⟩
  obtain ⟨-, -, hf⟩ | ⟨-, d, -, hf⟩ := shape
  · exact .inl hf
  · exact .inr ⟨d, hf⟩

/-- The R/W bit of the write address byte (R65). -/
theorem addressWrite_readBit (sel : Fin 4) : (addressWrite sel).extractLsb' 0 1 = 0#1 := by
  revert sel; decide

/-- Settles O21, from the shape of a built frame. -/
theorem firstByteDependsOnTheSelectorOnly : Obligations.FirstByteDependsOnTheSelectorOnly := by
  intro sel index op data f h
  obtain ⟨k, hk, b1, rfl | ⟨d, rfl⟩⟩ := buildFrame_ok_address h
  · exact ⟨k, hk, rfl⟩
  · exact ⟨k, hk, rfl⟩

/-- Settles O3, from the outcomes on the four selectors and on all others. -/
theorem addressByteIsTheFormula : Obligations.AddressByteIsTheFormula :=
  ⟨fun s sel => exec_observes_of_outcome (outcomeBy_addrByte_write sel) s,
    fun s sel => exec_observes_of_outcome (outcomeBy_addrByte_read sel) s,
    fun s _ d hbad => exec_observes_of_outcome (outcomeBy_addrByte_of_bad d hbad) s,
    fun sel d => (addressPins_error_iff sel d).trans indexOutOfRange_eq_true_iff⟩

/-- Settles O4, from the outcomes of the read request and the shape of a built frame. -/
theorem readRequestIsTheOneByteFrame : Obligations.ReadRequestIsTheOneByteFrame := by
  refine ⟨fun s sel => exec_observes_of_outcome (outcomeBy_rdreq_fin sel) s,
    fun s _ hbad => exec_observes_of_outcome (outcomeBy_rdreq_of_bad hbad) s, ?_⟩
  intro sel op index data f h
  obtain ⟨k, -, b1, shape⟩ := buildFrame_ok_address h
  exact ⟨addressWrite k, b1, addressWrite_readBit k, shape⟩

end Sys2Proof.AddressEncoder
end

section
/-! SUPPORT. Proofs of the family 42_command_byte_assembler: the command byte of each command call, and the port call with a
reserved operation code, which is no instruction and so is followed through the step. -/

open Sys2Proof Sys2Proof.Machine Sys2Proof.Resolver

namespace Sys2Proof.CommandAssembler

/-! ### The outcomes of the command calls -/

theorem outcomeBy_cmdInc (a : Nibble) : outcomeBy (.cmdInc a) = .byte (a.setWidth 8 <<< 4 ||| 0x04) :=
  congrArg Observation.byte (commandByte_increment a)

theorem outcomeBy_cmdDec (a : Nibble) : outcomeBy (.cmdDec a) = .byte (a.setWidth 8 <<< 4 ||| 0x08) :=
  congrArg Observation.byte (commandByte_decrement a)

/-- The two variants of a write share their opcode (R115). -/
theorem writeOperation_opcode (v : IndexClass) : v.writeOperation.opcode = 0b00 := by cases v <;> rfl

/-- The two variants of a read share their opcode (R116). -/
theorem readOperation_opcode (v : IndexClass) : v.readOperation.opcode = 0b11 := by cases v <;> rfl

theorem outcomeBy_cmdWr (v : IndexClass) (a : Nibble) : outcomeBy (.cmdWr v a) = .byte (a.setWidth 8 <<< 4) := by
  rw [outcomeBy, encodeCommand, writeOperation_opcode, commandByte_write]
  rfl

theorem outcomeBy_cmdRd (v : IndexClass) (a : Nibble) :
    outcomeBy (.cmdRd v a) = .byte (a.setWidth 8 <<< 4 ||| 0x0C) := by
  rw [outcomeBy, encodeCommand, readOperation_opcode, commandByte_read]
  rfl

/-- Settles O5, from the outcomes of the two counting commands. -/
theorem incrementAndDecrementCommandBytes : Obligations.IncrementAndDecrementCommandBytes :=
  ⟨fun s a => exec_observes_of_outcome (outcomeBy_cmdInc a) s,
    fun s a => exec_observes_of_outcome (outcomeBy_cmdDec a) s⟩

/-- Settles O6, from the outcomes of the write and the read command, the same for both variants. -/
theorem writeAndReadCommandBytes : Obligations.WriteAndReadCommandBytes :=
  ⟨fun s v a => exec_observes_of_outcome (outcomeBy_cmdWr v a) s,
    fun s v a => exec_observes_of_outcome (outcomeBy_cmdRd v a) s⟩

/-! ### Reserved operation codes -/

theorem fetch_ec_of_reserved {p : CommandPins} (h : operationOfCode p.operation = none) :
    fetch (.ec p) = .reservedCommand p := by
  simp [fetch, h]

/-- A command call without a named operation drives its pins and observes InvalidOperation alone (R112). -/
theorem callEncodeCommand_of_reserved {p : CommandPins} (h : operationOfCode p.operation = none) (s : State) :
    callEncodeCommand p s = .next ((s.driveEc p).observe (.errors ⟨false, true⟩)) := by
  rw [callEncodeCommand, h]
  rfl

theorem step_of_reservedCommand {s : State} {p : CommandPins} {rest : List Request}
    (h : operationOfCode p.operation = none) (hp : s.pending = .ec p :: rest) :
    step s = .next ((State.driveEc { s with pending := rest } p).observe (.errors ⟨false, true⟩)) := by
  rw [step_of_pending hp, fetch_ec_of_reserved h]
  exact callEncodeCommand_of_reserved h _

/-- Settles O27: codes 6 and 7 are those that name no operation. -/
theorem reservedOperationCodeCommand : Obligations.ReservedOperationCodeCommand :=
  fun _ _ _ hcode hp => ⟨_, step_of_reservedCommand (operationOfCode_eq_none_iff.2 hcode) hp, rfl, rfl⟩

end Sys2Proof.CommandAssembler
end

section
/-! SUPPORT. Proofs of the family 43_frame_builder: which calls of `buildFrame` give a frame and which errors the others
report, first for the function, then for the frame rows, the reserved codes and the ports. What a row's proof adds is its
operation, its index table and its command byte. -/

open Sys2Proof Sys2Proof.Machine Sys2Proof.Stmt Sys2Proof.Legality Sys2Proof.Translation Sys2Proof.Encoding
  Sys2Proof.Resolver

namespace Sys2Proof.FrameBuilder

/-! ### The range check, in the words of the statements -/

theorem indexOutOfRange_eq_decide_bad (v : Int) : indexOutOfRange v = decide (bad v) := by
  rw [Bool.eq_iff_iff, decide_eq_true_iff]
  exact indexOutOfRange_eq_true_iff

theorem valid_iff_not_bad {v : Int} : indexOutOfRange v = false ↔ ¬ bad v := by
  rw [indexOutOfRange_eq_decide_bad, decide_eq_false_iff_not]

/-! ### Which operations need data -/

theorem needsData_eq_true_iff {op : Operation} : op.needsData = true ↔ op = .writeWiper ∨ op = .writeRegister := by
  cases op <;> decide

theorem needsData_eq_false_iff {op : Operation} :
    op.needsData = false ↔ op = .increment ∨ op = .decrement ∨ op = .readWiper ∨ op = .readRegister := by
  cases op <;> decide

theorem needsData_eq_isSome_iff {op : Operation} {data : Option Byte} :
    op.needsData = data.isSome ↔ (data.isSome = true ↔ op = .writeWiper ∨ op = .writeRegister) := by
  rw [← needsData_eq_true_iff, ← Bool.eq_iff_iff, eq_comm]

/-- Data is wrong for an operation that forbids it when it is present (R131). -/
theorem dataWrong_iff_of_forbidden {op : Operation} {data : Option Byte} (h : op.needsData = false) :
    op.needsData ≠ data.isSome ↔ data ≠ none := by
  cases data <;> simp [h]

/-- Data is wrong for an operation that requires it when it is absent (R131). -/
theorem dataWrong_iff_of_required {op : Operation} {data : Option Byte} (h : op.needsData = true) :
    op.needsData ≠ data.isSome ↔ data = none := by
  cases data <;> simp [h]

/-! ### The result of a call

`wrong` is the words in which a statement says that the data presence is wrong. -/

/-- On each of the three conditions the call reports all that hold (R123, D8). -/
theorem buildFrame_of_bad {sel index : Int} {op : Operation} {data : Option Byte} {wrong : Prop} [Decidable wrong]
    (hw : op.needsData ≠ data.isSome ↔ wrong) (h : bad sel ∨ bad index ∨ wrong) :
    buildFrame sel (some op) index data = .error ⟨decide (bad sel ∨ bad index), decide wrong⟩ := by
  have hne : (frameErrors sel (some op) index data).isEmpty = false := by
    rwa [← Bool.not_eq_true, frameErrors_isEmpty_iff, valid_iff_not_bad, valid_iff_not_bad, not_and_or, not_and_or,
      not_not, not_not, ← ne_eq, hw]
  have hdata : (op.needsData != data.isSome) = decide wrong := by
    rw [Bool.eq_iff_iff, bne_iff_ne, decide_eq_true_iff, hw]
  rw [buildFrame_of_errors hne, frameErrors_some, hdata, indexOutOfRange_eq_decide_bad,
    indexOutOfRange_eq_decide_bad, Bool.decide_or (bad sel) (bad index)]

theorem buildFrame_of_not_bad {sel index : Int} {op : Operation} {data : Option Byte} (hs : ¬ bad sel)
    (hi : ¬ bad index) (hd : op.needsData = data.isSome) : ∃ f, buildFrame sel (some op) index data = .ok f := by
  have hs' := valid_iff_not_bad.2 hs
  have hi' := valid_iff_not_bad.2 hi
  cases data with
  | none => exact ⟨_, buildFrame_without_data hs' hi' hd⟩
  | some d => exact ⟨_, buildFrame_with_data d hs' hi' hd⟩

/-- Settles O18: by the three conditions of a failure. -/
theorem buildFrameErrorsAreComplete : Obligations.BuildFrameErrorsAreComplete := by
  intro sel index op data
  by_cases h : bad sel ∨ bad index ∨ ¬(data.isSome = true ↔ op = .writeWiper ∨ op = .writeRegister)
  · exact .inr ⟨h, buildFrame_of_bad (not_congr needsData_eq_isSome_iff) h⟩
  · obtain ⟨hs, hrest⟩ := not_or.1 h
    obtain ⟨hi, hwrong⟩ := not_or.1 hrest
    have hd := not_not.1 hwrong
    exact .inl ⟨hs, hi, hd, buildFrame_of_not_bad hs hi (needsData_eq_isSome_iff.2 hd)⟩

/-- Settles O20, from the shape of a built frame. -/
theorem frameLengthIsTheOperations : Obligations.FrameLengthIsTheOperations := by
  intro sel index op data f h
  obtain ⟨op, rfl, -, -, ⟨hd, -, rfl⟩ | ⟨hd, d, -, rfl⟩⟩ := buildFrame_ok_cases h
  · exact .inr ⟨by simpa using needsData_eq_false_iff.1 hd, rfl⟩
  · exact .inl ⟨by simpa using needsData_eq_true_iff.1 hd, rfl⟩

/-! ### The frame rows -/

/-- A row on invalid operands observes the errors of its `buildFrame` call. -/
theorem exec_observes_errors {i : Instr} {op : Operation} {sel index : Int} {data : Option Byte} {wrong : Prop}
    [Decidable wrong] (hi : outcomeBy i = frameOutcome sel op index data)
    (hw : op.needsData ≠ data.isSome ↔ wrong) (h : bad sel ∨ bad index ∨ wrong) (s : State) :
    ∃ t, exec i s = .next t ∧
      t.observed = s.observed ++ [.errors ⟨decide (bad sel ∨ bad index), decide wrong⟩] := by
  refine exec_observes_of_outcome (hi.trans ?_) s
  rw [frameOutcome, buildFrame_of_bad hw h]
  rfl

/-- The command byte of a row whose index is a wiper channel (R122). -/
theorem commandByte_of_wiper {op : Operation} (h : op.indexClass = .wiper) (c : Fin 4) :
    commandByte (operationAddress op (indexBits (c.val : Int))) op.opcode = commandByte (wiper c) op.opcode := by
  rw [operationAddress, h, wiperAddress_fin]

/-- The command byte of a row whose index is a control register (R122). -/
theorem commandByte_of_control {op : Operation} (h : op.indexClass = .control) (r : Fin 4) :
    commandByte (operationAddress op (indexBits (r.val : Int))) op.opcode = commandByte (control r) op.opcode := by
  rw [operationAddress, h, controlAddress_fin]

/-- Settles O8: the counting rows forbid data and go through the wiper table. -/
theorem incrementFrameAndErrors : Obligations.IncrementFrameAndErrors :=
  ⟨fun s _ i => exec_observes_command (op := .increment) rfl rfl
      ((commandByte_of_wiper rfl i).trans (commandByte_increment _)) s,
    fun s _ _ _ h => exec_observes_errors (op := .increment) rfl (dataWrong_iff_of_forbidden rfl) h s⟩

/-- Settles O9, as INC with the other counting opcode. -/
theorem decrementFrameAndErrors : Obligations.DecrementFrameAndErrors :=
  ⟨fun s _ i => exec_observes_command (op := .decrement) rfl rfl
      ((commandByte_of_wiper rfl i).trans (commandByte_decrement _)) s,
    fun s _ _ _ h => exec_observes_errors (op := .decrement) rfl (dataWrong_iff_of_forbidden rfl) h s⟩

/-- Settles O10: the row requires data and goes through the wiper table. -/
theorem writeWiperFrameAndErrors : Obligations.WriteWiperFrameAndErrors :=
  ⟨fun s _ i _ => exec_observes_commandData (op := .writeWiper) rfl rfl
      ((commandByte_of_wiper rfl i).trans (commandByte_write _)) s,
    fun s _ _ _ h => exec_observes_errors (op := .writeWiper) rfl (dataWrong_iff_of_required rfl) h s⟩

/-- Settles O11: the row requires data and goes through the control table. -/
theorem writeRegisterFrameAndErrors : Obligations.WriteRegisterFrameAndErrors :=
  ⟨fun s _ i _ => exec_observes_commandData (op := .writeRegister) rfl rfl
      ((commandByte_of_control rfl i).trans (commandByte_write _)) s,
    fun s _ _ _ h => exec_observes_errors (op := .writeRegister) rfl (dataWrong_iff_of_required rfl) h s⟩

/-- Settles O12: the row forbids data and goes through the wiper table. -/
theorem readWiperFrameAndErrors : Obligations.ReadWiperFrameAndErrors :=
  ⟨fun s _ i => exec_observes_command (op := .readWiper) rfl rfl
      ((commandByte_of_wiper rfl i).trans (commandByte_read _)) s,
    fun s _ _ _ h => exec_observes_errors (op := .readWiper) rfl (dataWrong_iff_of_forbidden rfl) h s⟩

/-- Settles O13: the row forbids data and goes through the control table. -/
theorem readRegisterFrameAndErrors : Obligations.ReadRegisterFrameAndErrors :=
  ⟨fun s _ i => exec_observes_command (op := .readRegister) rfl rfl
      ((commandByte_of_control rfl i).trans (commandByte_read _)) s,
    fun s _ _ _ h => exec_observes_errors (op := .readRegister) rfl (dataWrong_iff_of_forbidden rfl) h s⟩

/-! ### Concrete rows beside their frame rows -/

/-- A register row has one outcome at the two registers of a pair (R49). -/
theorem frameOutcome_eq_of_control_eq {op : Operation} (hop : op = .writeRegister ∨ op = .readRegister) {r r' : Fin 4}
    (h : control r = control r') (sel : Int) (data : Option Byte) :
    frameOutcome sel op (r.val : Int) data = frameOutcome sel op (r'.val : Int) data := by
  rw [frameOutcome, buildFrame_eq_of_control_eq hop h]

/-- A concrete row is `buildFrame` at its frame row's index, or at the lower register of that index's pair. -/
theorem outcomeBy_concretePairs {sel : Int} {data : Option Byte} :
    ∀ p ∈ concretePairs sel data, outcomeBy p.1 = outcomeBy p.2 := by
  have write01 := frameOutcome_eq_of_control_eq (.inl rfl) (show control 0 = control 1 from rfl) sel data
  have write23 := frameOutcome_eq_of_control_eq (.inl rfl) (show control 2 = control 3 from rfl) sel data
  have read01 := frameOutcome_eq_of_control_eq (.inr rfl) (show control 0 = control 1 from rfl) sel data
  have read23 := frameOutcome_eq_of_control_eq (.inr rfl) (show control 2 = control 3 from rfl) sel data
  simp only [concretePairs, List.forall_mem_append, List.forall_mem_cons, List.not_mem_nil, false_imp_iff,
    implies_true, and_true, and_assoc]
  exact ⟨rfl, rfl, rfl, rfl, rfl, rfl, rfl, rfl, rfl, rfl, rfl, rfl, rfl, rfl, rfl, rfl,
    rfl, write01, rfl, write23, rfl, read01, rfl, read23⟩

/-- Settles O17: equal outcomes are observed from any two states. -/
theorem concreteRowsObserveTheirFrameRow : Obligations.ConcreteRowsObserveTheirFrameRow := by
  intro s s' sel data p hp
  obtain ⟨t, ht, hobs⟩ := exec_observes_of_outcome (outcomeBy_concretePairs p hp) s
  obtain ⟨t', ht', hobs'⟩ := exec_observes p.2 s'
  exact ⟨t, t', outcomeBy p.2, ht, ht', hobs, hobs'⟩

/-! ### Reserved operation codes -/

theorem buildFrame_of_reserved (sel index : Int) (data : Option Byte) :
    buildFrame sel none index data = .error ⟨decide (bad sel), true⟩ := by
  have herr : frameErrors sel none index data = ⟨decide (bad sel), true⟩ := by
    rw [frameErrors_none, indexOutOfRange_eq_decide_bad]
  rw [buildFrame_of_errors (by simp [herr, ErrorSet.isEmpty]), herr]

theorem fetch_bf_of_reserved {p : FramePins} (h : operationOfCode p.operation = none) :
    fetch (.bf p) = .reservedFrame p := by
  simp [fetch, h]

/-- A frame call without a named operation drives its pins and observes its two wires, index and data unread (R133). -/
theorem callBuildFrame_of_reserved {p : FramePins} (h : operationOfCode p.operation = none) (s : State) :
    callBuildFrame p s = .next ((s.driveBf p).observe (.errors ⟨decide (bad p.selector), true⟩)) := by
  rw [callBuildFrame, h, buildFrame_of_reserved]
  rfl

theorem step_of_reservedFrame {s : State} {p : FramePins} {rest : List Request}
    (h : operationOfCode p.operation = none) (hp : s.pending = .bf p :: rest) :
    step s = .next ((State.driveBf { s with pending := rest } p).observe (.errors ⟨decide (bad p.selector), true⟩)) := by
  rw [step_of_pending hp, fetch_bf_of_reserved h]
  exact callBuildFrame_of_reserved h _

/-- Settles O26: codes 6 and 7 are those that name no operation. -/
theorem reservedOperationCodeFrame : Obligations.ReservedOperationCodeFrame :=
  fun _ _ _ hcode hp => ⟨_, step_of_reservedFrame (operationOfCode_eq_none_iff.2 hcode) hp, rfl, rfl⟩

/-! ### The outputs of the frame group -/

/-- The outputs show a frame by its length and its bytes, with no error wire (R120). -/
theorem renderFrame_ok_shows (f : Frame) :
    (renderFrame (.ok f)).frameLen.toNat = f.bytes.length ∧ (renderFrame (.ok f)).frameBytes = f.bytes ∧
      (renderFrame (.ok f)).errOutOfRange = 0 ∧ (renderFrame (.ok f)).errInvalidOperation = 0 := by
  cases f <;> exact ⟨rfl, rfl, rfl, rfl⟩

theorem ofBool_eq_one_iff {b : Bool} : BitVec.ofBool b = 1 ↔ b = true := by cases b <;> decide

/-- The outputs show an error set by its two wires, with no byte (R163). -/
theorem renderFrame_error_shows (e : ErrorSet) :
    (renderFrame (.error e)).frameLen = 0 ∧ (renderFrame (.error e)).frameBytes = [] ∧
      ((renderFrame (.error e)).errOutOfRange = 1 ↔ e.outOfRange = true) ∧
      ((renderFrame (.error e)).errInvalidOperation = 1 ↔ e.invalidOperation = true) :=
  ⟨rfl, rfl, ofBool_eq_one_iff, ofBool_eq_one_iff⟩

/-- Settles O30: the outputs render the result of the call that the raw inputs stand for. -/
theorem outputsShowTheOutcomeOfBuildFrame : Obligations.OutputsShowTheOutcomeOfBuildFrame := by
  intro w raw
  have hout : raw.pins.out = renderFrame (buildFrame (raw.selector.toNat : Int) (operationOfCode raw.operation)
      (raw.index.toNat : Int) (if raw.dataPresent = 1 then some raw.data else none)) := rfl
  rw [hout]
  split
  · next f h => exact h ▸ renderFrame_ok_shows f
  · next e h => exact h ▸ renderFrame_error_shows e

/-- With `data_present` 0 the pins hold no data byte (R131, D23). -/
theorem rawFramePins_of_absent {w : Nat} (sel index : BitVec w) (op : BitVec 3) (d : Byte) :
    RawFrameIn.pins ⟨sel, op, index, 0, d⟩ = ⟨indexOfRaw sel, op, indexOfRaw index, none⟩ := rfl

/-- Settles O32: the pins do not hold the data lines. -/
theorem absentDataLinesAreIgnored : Obligations.AbsentDataLinesAreIgnored := by
  intro w sel index op d d'
  rw [rawFramePins_of_absent, rawFramePins_of_absent]

end Sys2Proof.FrameBuilder
end

section
/-! SUPPORT. Proofs of the family 44_top_level: programs, the port groups side by side, the decode helpers and the
transactions. A step makes one call, a call adds the one outcome of its instruction, so a program observes the outcomes
of its calls in order; a transaction is the program of its two calls. -/

open Sys2Proof Sys2Proof.Machine Sys2Proof.Stmt Sys2Proof.Legality Sys2Proof.Translation Sys2Proof.Encoding
  Sys2Proof.Resolver Sys2Proof.FrameBuilder

namespace Sys2Proof.TopLevel

/-! ### Programs -/

/-- Alone, a call observes its outcome and nothing else (R153). -/
theorem soloObservation_eq (i : Instr) : soloObservation i = [outcomeBy i] := by
  simp [soloObservation, exec_eq]

/-- A run over calls makes them all and observes their outcomes in order, on errors as on results (R153, R169). -/
theorem core_run_calls (calls : List Instr) :
    ∀ s : State, s.pending = calls.map .call → ∃ t, Sys2Proof.core.run calls.length s = .next t ∧
      State.pending t = [] ∧ State.observed t = s.observed ++ calls.map outcomeBy := by
  induction calls with
  | nil => exact fun s hp => ⟨s, core_run_zero s, hp, (List.append_nil _).symm⟩
  | cons i calls ih =>
    intro s hp
    obtain ⟨t, hrun, hpend, hobs⟩ :=
      ih ((drivenBy i { s with pending := calls.map .call }).observe (outcomeBy i)) (by simp)
    refine ⟨t, (core_run_succ (step_of_call hp)).trans hrun, hpend, hobs.trans ?_⟩
    simp

/-- Settles O40: a run observes outcomes, and a call's outcome is its observation on its own. -/
theorem programObservationIsCallByCall : Obligations.ProgramObservationIsCallByCall := by
  refine ⟨fun i => ⟨outcomeBy i, soloObservation_eq i⟩, fun calls s => ?_⟩
  have hsolo : calls.flatMap soloObservation = calls.map outcomeBy := by
    rw [List.map_eq_flatMap, funext soloObservation_eq]
  rw [hsolo]
  exact core_run_calls calls { s with pending := calls.map .call } rfl

/-- Settles O39: the outcome of an instruction is a function of its operands. -/
theorem callsArePure : Obligations.CallsArePure := fun i => ⟨outcomeBy i, exec_observes i⟩

/-! ### The step -/

/-- Only bits that the decoder rejects are a request without a meaning (R73). -/
theorem fetch_eq_rejected {r : Request} {reason : DecodeReject} (h : fetch r = .rejected reason) :
    ∃ e, r = .emitted e ∧ decode e = .error reason := by
  cases r with
  | call | rw | rc | ab => cases h
  | ec p | bf p => cases hop : operationOfCode p.operation <;> simp [fetch, hop] at h
  | emitted e =>
    cases hd : decode e with
    | ok i => simp [fetch, hd] at h
    | error reason' =>
      simp only [fetch, hd, Fetched.rejected.injEq] at h
      exact ⟨e, rfl, by rw [hd, h]⟩

/-- A request with a meaning, reserved operation codes included, ends with one outcome, a legal one (R149). -/
theorem runFetched_answers {f : Fetched} (hf : ∀ reason, f ≠ .rejected reason) (s : State) :
    ∃ t o, runFetched f s = .next t ∧ t.pending = s.pending ∧ t.observed = s.observed ++ [o] ∧ o.legal = true := by
  have hnext : ∃ t, runFetched f s = .next t ∧ t.pending = s.pending := by
    cases f with
    | instr i => exact ⟨_, exec_eq i s, by simp⟩
    | reservedCommand p => exact ⟨_, finish_eq _ _, rfl⟩
    | reservedFrame p => exact ⟨_, finish_eq _ _, rfl⟩
    | rejected reason => exact absurd rfl (hf reason)
  obtain ⟨t, ht, hpend⟩ := hnext
  obtain ⟨o, hlegal, hobs⟩ := runFetched_observes_legal ht
  exact ⟨t, o, ht, hpend, hobs, hlegal⟩

/-- Settles O29: a port call is no rejected request, and a legal error set is not empty. -/
theorem everyPortCallHasOneOutcome : Obligations.EveryPortCallHasOneOutcome := by
  intro s r rest _ hemit hp
  have hf : ∀ reason, fetch r ≠ .rejected reason := by
    intro reason h
    obtain ⟨e, he, -⟩ := fetch_eq_rejected h
    exact hemit e he
  obtain ⟨t, o, ht, hpend, hobs, hlegal⟩ := runFetched_answers hf { s with pending := rest }
  refine ⟨t, o, (step_of_pending hp).trans ht, hpend, hobs, ?_⟩
  rintro e rfl
  simpa [Observation.legal, ErrorSet.isEmpty, or_iff_not_imp_left] using hlegal

/-- Settles O38, by cases on the next request: rejected or with a meaning. -/
theorem stepStopsOnlyOnForeignBits : Obligations.StepStopsOnlyOnForeignBits := by
  intro s
  cases hp : s.pending with
  | nil => exact .inl ⟨s, step_of_idle hp⟩
  | cons r rest =>
    rw [step_of_pending hp]
    by_cases hf : ∃ reason, fetch r = .rejected reason
    · obtain ⟨reason, hreason⟩ := hf
      obtain ⟨e, rfl, he⟩ := fetch_eq_rejected hreason
      exact .inr ⟨e, reason, rest, rfl, he, by rw [hreason]; rfl⟩
    · obtain ⟨t, -, ht, -⟩ := runFetched_answers (not_exists.1 hf) { s with pending := rest }
      exact .inl ⟨t, ht⟩

/-- Settles O37: the case of `step` without a request. -/
theorem stepIsIdleWithoutACall : Obligations.StepIsIdleWithoutACall := fun _ => step_of_idle

/-! ### The port groups -/

/-- The pins an instruction drives are those of its port group (R140). -/
theorem drivenBy_cases (i : Instr) (s : State) :
    (groupOf i = .rw ∧ ∃ p, drivenBy i s = s.driveRw p) ∨ (groupOf i = .rc ∧ ∃ p, drivenBy i s = s.driveRc p) ∨
      (groupOf i = .ab ∧ ∃ p, drivenBy i s = s.driveAb p) ∨ (groupOf i = .ec ∧ ∃ p, drivenBy i s = s.driveEc p) ∨
      (groupOf i = .bf ∧ ∃ p, drivenBy i s = s.driveBf p) := by
  cases i
  case resolveWiper => exact .inl ⟨rfl, _, rfl⟩
  case resolveControl => exact .inr (.inl ⟨rfl, _, rfl⟩)
  case addrByte | rdreq => exact .inr (.inr (.inl ⟨rfl, _, rfl⟩))
  case cmdWr | cmdInc | cmdDec | cmdRd => exact .inr (.inr (.inr (.inl ⟨rfl, _, rfl⟩)))
  all_goals exact .inr (.inr (.inr (.inr ⟨rfl, _, rfl⟩)))

/-- Settles O33: by the group driven; outputs are functions of the pins, so they are unchanged where the pins are. -/
theorem portGroupsAreIndependent : Obligations.PortGroupsAreIndependent := by
  intro i s t h
  rw [exec_eq] at h
  cases h
  refine ⟨by simp, ⟨outcomeBy i, by simp⟩, ?_⟩
  obtain ⟨hg, p, hp⟩ | ⟨hg, p, hp⟩ | ⟨hg, p, hp⟩ | ⟨hg, p, hp⟩ | ⟨hg, p, hp⟩ := drivenBy_cases i s <;>
    simp [hg, hp, PortPins.out]

/-- The pins an instruction drives carry its operands with the codes of R74 and R75. -/
theorem drivenBy_ports (i : Instr) (s : State) : (drivenBy i s).ports = pinsAfter i s.ports := by
  cases i
  case addrByte sel d => cases d <;> rfl
  case cmdWr v a | cmdRd v a => cases v <;> rfl
  all_goals rfl

/-- Settles O56, from the pins driven. -/
theorem everyInstructionDrivesExactlyItsPins : Obligations.EveryInstructionDrivesExactlyItsPins :=
  fun i s => ⟨_, exec_eq i s, drivenBy_ports i s, drivenBy_pending i s⟩

/-! ### Built frames in bytes -/

/-- A built frame is the address byte, the command byte and the data byte where the operation needs one (R121, R148). -/
theorem buildFrame_ok_bytes {sel index : Int} {op : Operation} {data : Option Byte} {f : Frame}
    (h : buildFrame sel (some op) index data = .ok f) :
    indexOutOfRange sel = false ∧ indexOutOfRange index = false ∧ op.needsData = data.isSome ∧
      f.bytes = addressByte (indexBits sel) .write ::
        commandByte (operationAddress op (indexBits index)) op.opcode :: data.toList := by
  obtain ⟨op', hop, hs, hi, shape⟩ := buildFrame_ok_cases h
  cases hop
  obtain ⟨hd, rfl, rfl⟩ | ⟨hd, d, rfl, rfl⟩ := shape
  · exact ⟨hs, hi, hd, rfl⟩
  · exact ⟨hs, hi, hd, rfl⟩

/-- The resolver of an operation's class, in the words of the statement (R122). -/
theorem resolveIndex_eq_ite (op : Operation) (index : Int) :
    (if op = .writeRegister ∨ op = .readRegister then resolveControlAddress index else resolveWiperAddress index) =
      resolveIndex op index := by
  cases op <;> rfl

/-- Settles O22: the bytes of a built frame are those the standalone functions give. -/
theorem buildFrameIsTheComposition : Obligations.BuildFrameIsTheComposition := by
  intro sel index op data f h
  obtain ⟨hs, hi, hd, hbytes⟩ := buildFrame_ok_bytes h
  have hresolve := (resolveIndex_eq_ite op index).trans (resolveIndex_of_valid op hi)
  refine ⟨_, _, _, encodeAddressByte_of_valid .write hs, hresolve, rfl, hbytes.trans ?_⟩
  cases data with
  | none => simp
  | some d => simp [needsData_eq_true_iff.1 hd]

/-! ### Reading address and command bytes -/

/-- The bytes with 01011 in bits 7 to 3 are 0x58 to 0x5F (R61). -/
theorem addressPrefix_iff_range {b : Byte} : b.extractLsb' 3 5 = 0b01011#5 ↔ 0x58 ≤ b.toNat ∧ b.toNat ≤ 0x5F := by
  rw [← BitVec.toNat_inj, BitVec.extractLsb'_toNat, Nat.shiftRight_eq_div_pow]
  simp only [BitVec.toNat_ofNat]
  omega

/-- The bytes with 01011 in bits 7 to 3 are the address bytes (R65, R143). -/
theorem addressPrefix_iff {b : Byte} : b.extractLsb' 3 5 = 0b01011#5 ↔ ∃ s d, b = addressByte s d := by
  constructor
  · intro h
    have hdec : decodeAddressByte b = some (b.extractLsb' 1 2, .ofBit (b.extractLsb' 0 1)) := by
      simp [decodeAddressByte, h]
    exact ⟨_, _, eq_addressByte_of_decode hdec⟩
  · rintro ⟨s, d, rfl⟩
    simpa [isAddressByte] using isAddressByte_addressByte s d

/-- The bytes with 00 in bits 1 to 0 are the command bytes (R66, R144). -/
theorem commandSuffix_iff {b : Byte} : b.extractLsb' 0 2 = 0b00#2 ↔ ∃ a opcode, b = commandByte a opcode := by
  constructor
  · intro h
    have hdec : decodeCommandByte b = some (b.extractLsb' 4 4, b.extractLsb' 2 2) := by simp [decodeCommandByte, h]
    exact ⟨_, _, eq_commandByte_of_decode hdec⟩
  · rintro ⟨a, opcode, rfl⟩
    simpa [isCommandByte] using isCommandByte_commandByte a opcode

/-- The R/W bit of an address byte is its direction's (R65). -/
theorem addressByte_readBit (s : BitVec 2) (d : Direction) : (addressByte s d).extractLsb' 0 1 = d.bit := by
  cases d <;> (revert s; decide)

theorem direction_bit_injective : Function.Injective Direction.bit := Function.LeftInverse.injective ofBit_bit

/-- The address bytes of one direction, by their fields (R65). -/
theorem addressByte_fields_iff {b : Byte} {d : Direction} :
    (b.extractLsb' 3 5 = 0b01011#5 ∧ b.extractLsb' 0 1 = d.bit) ↔ ∃ s, b = addressByte s d := by
  rw [addressPrefix_iff]
  constructor
  · rintro ⟨⟨s, d', rfl⟩, hrw⟩
    rw [addressByte_readBit] at hrw
    exact ⟨s, by rw [direction_bit_injective hrw]⟩
  · rintro ⟨s, rfl⟩
    exact ⟨⟨s, d, rfl⟩, addressByte_readBit s d⟩

/-- The command bytes of one opcode, by their fields (R66). -/
theorem commandByte_fields_iff {b : Byte} {opcode : BitVec 2} :
    (b.extractLsb' 0 2 = 0b00#2 ∧ b.extractLsb' 2 2 = opcode) ↔ ∃ a, b = commandByte a opcode := by
  rw [commandSuffix_iff]
  constructor
  · rintro ⟨⟨a, opcode', rfl⟩, hop⟩
    rw [commandByte_opcodeField] at hop
    exact ⟨a, by rw [hop]⟩
  · rintro ⟨a, rfl⟩
    exact ⟨⟨a, opcode, rfl⟩, commandByte_opcodeField a opcode⟩

/-- Encoding the two bits of a selector gives the address byte of them (R101). -/
theorem encodeAddressByte_cast (s : BitVec 2) (d : Direction) :
    encodeAddressByte (s.toNat : Int) d = .ok (addressByte s d) := by
  rw [encodeAddressByte_of_valid d (indexOutOfRange_cast s), indexBits_cast]

/-- Settles O49: the helpers accept exactly the bytes that the formulas give, and undo the formulas. -/
theorem byteHelpersRoundTrip : Obligations.ByteHelpersRoundTrip := by
  refine ⟨fun sel d => ⟨_, encodeAddressByte_cast (BitVec.ofFin sel) d, ?_⟩, fun b => ?_, fun b hb => ?_,
    fun op a => ⟨_, rfl, decodeCommandByte_commandByte a op.opcode⟩⟩
  · rw [decodeAddressByte_addressByte, BitVec.ofFin_eq_ofNat]
  · rw [← addressPrefix_iff_range, addressPrefix_iff]
    constructor
    · rintro ⟨s, d, rfl⟩
      exact ⟨s, d, decodeAddressByte_addressByte s d, encodeAddressByte_cast s d⟩
    · rintro ⟨s, d, hdec, -⟩
      exact ⟨s, d, eq_addressByte_of_decode hdec⟩
  · rwa [decodeAddressByte_eq_none_iff, ne_eq, addressPrefix_iff_range]

/-! ### Reading frames -/

/-- F1 (R64). -/
theorem decodeFrame_readRequest (s : BitVec 2) : decodeFrame [addressByte s .read] = some ⟨s, .read, none, none⟩ := by
  simp [decodeFrame]

/-- F2 and F3: a data byte is there exactly with the opcode of a write (R64). -/
theorem decodeFrame_command (s : BitVec 2) (a : Nibble) {opcode : BitVec 2} {data : Option Byte}
    (h : data.isSome = true ↔ opcode = 0b00) :
    decodeFrame (addressByte s .write :: commandByte a opcode :: data.toList) =
      some ⟨s, .write, some (a, opcode), data⟩ := by
  cases data <;> simp_all [decodeFrame]

/-- After an address byte with R/W = 0 come a command byte and, exactly after a write, a data byte (R145). -/
theorem decodeFrame_write_cases {s : BitVec 2} {b1 : Byte} {tail : List Byte} {d : DecodedFrame}
    (h : decodeFrame (addressByte s .write :: b1 :: tail) = some d) :
    ∃ (a : Nibble) (opcode : BitVec 2) (data : Option Byte), (data.isSome = true ↔ opcode = 0b00) ∧
      b1 :: tail = commandByte a opcode :: data.toList := by
  cases h1 : decodeCommandByte b1 with
  | none => simp [decodeFrame, h1] at h
  | some fields =>
    obtain ⟨a, opcode⟩ := fields
    obtain rfl := eq_commandByte_of_decode h1
    match tail with
    | [] => exact ⟨a, opcode, none, by by_cases ho : opcode = 0b00 <;> simp_all [decodeFrame], rfl⟩
    | [x] => exact ⟨a, opcode, some x, by by_cases ho : opcode = 0b00 <;> simp_all [decodeFrame], rfl⟩
    | _ :: _ :: _ => simp [decodeFrame] at h

/-- The inversion of `decodeFrame`: what it accepts is of format F1, F2 or F3 (R145). -/
theorem decodeFrame_cases {bs : List Byte} {d : DecodedFrame} (h : decodeFrame bs = some d) :
    (∃ s, bs = [addressByte s .read]) ∨
      ∃ (s : BitVec 2) (a : Nibble) (opcode : BitVec 2) (data : Option Byte), (data.isSome = true ↔ opcode = 0b00) ∧
        bs = addressByte s .write :: commandByte a opcode :: data.toList := by
  cases bs with
  | nil => cases h
  | cons b0 rest =>
    cases h0 : decodeAddressByte b0 with
    | none => simp [decodeFrame, h0] at h
    | some fields =>
      obtain ⟨s, direction⟩ := fields
      obtain rfl := eq_addressByte_of_decode h0
      cases direction with
      | read =>
        cases rest with
        | nil => exact .inl ⟨s, rfl⟩
        | cons => simp [decodeFrame] at h
      | write =>
        cases rest with
        | nil => simp [decodeFrame] at h
        | cons b1 tail =>
          obtain ⟨a, opcode, data, hd, hcons⟩ := decodeFrame_write_cases h
          exact .inr ⟨s, a, opcode, data, hd, by rw [hcons]⟩

/-- Settles O57: the bytes of the three formats are the address and command bytes, by their fields. -/
theorem decodeFrameAcceptsExactlyTheFormats : Obligations.DecodeFrameAcceptsExactlyTheFormats := by
  intro bs
  constructor
  · rintro ⟨d, h⟩
    obtain ⟨s, rfl⟩ | ⟨s, a, opcode, data, hd, rfl⟩ := decodeFrame_cases h
    · obtain ⟨haddr, hrw⟩ := addressByte_fields_iff.2 ⟨s, rfl⟩
      exact .inl ⟨_, rfl, haddr, hrw⟩
    · obtain ⟨haddr, hrw⟩ := addressByte_fields_iff.2 ⟨s, rfl⟩
      obtain ⟨hcmd, hop⟩ := commandByte_fields_iff.2 ⟨a, rfl⟩
      cases data with
      | none => exact .inr (.inl ⟨_, _, rfl, haddr, hrw, hcmd, by simpa [hop] using hd⟩)
      | some x => exact .inr (.inr ⟨_, _, x, rfl, haddr, hrw, hcmd, hop.trans (hd.1 rfl)⟩)
  · rintro (⟨b0, rfl, haddr, hrw⟩ | ⟨b0, b1, rfl, haddr, hrw, hcmd, hop⟩ |
      ⟨b0, b1, x, rfl, haddr, hrw, hcmd, hop⟩)
    · obtain ⟨s, rfl⟩ := addressByte_fields_iff (d := .read).1 ⟨haddr, hrw⟩
      exact ⟨_, decodeFrame_readRequest s⟩
    · obtain ⟨s, rfl⟩ := addressByte_fields_iff (d := .write).1 ⟨haddr, hrw⟩
      obtain ⟨a, opcode, rfl⟩ := commandSuffix_iff.1 hcmd
      rw [commandByte_opcodeField] at hop
      exact ⟨_, decodeFrame_command s a (data := none) (by simpa using hop)⟩
    · obtain ⟨s, rfl⟩ := addressByte_fields_iff (d := .write).1 ⟨haddr, hrw⟩
      obtain ⟨a, rfl⟩ := commandByte_fields_iff.1 ⟨hcmd, hop⟩
      exact ⟨_, decodeFrame_command s a (data := some x) (by simp)⟩

/-- A first byte with R/W = 1 is a frame of its own, whatever follows it (R71). -/
theorem streamFrameLength_readRequest (s : BitVec 2) (more : List Byte) :
    streamFrameLength (addressByte s .read :: more) = some 1 := by
  simp [streamFrameLength, addressByte_readBit, Direction.bit]

/-- The opcode of the command byte tells whether a data byte ends the frame, whatever follows it (R71). -/
theorem streamFrameLength_command (s : BitVec 2) (a : Nibble) {opcode : BitVec 2} {data : Option Byte}
    (h : data.isSome = true ↔ opcode = 0b00) (more : List Byte) :
    streamFrameLength (addressByte s .write :: commandByte a opcode :: (data.toList ++ more)) =
      some (data.toList.length + 2) := by
  cases data <;> simp_all [streamFrameLength, addressByte_readBit, Direction.bit]

/-- The opcode of an operation is Write exactly when the operation needs data (R67, R131). -/
theorem opcode_eq_write_iff {op : Operation} : op.opcode = 0b00 ↔ op.needsData = true := by cases op <;> decide

/-- The inversion of `readRequest` (R103). -/
theorem readRequest_ok {sel : Int} {f : Frame} (h : readRequest sel = .ok f) :
    f = .addressOnly (addressByte (indexBits sel) .read) := by
  cases hs : indexOutOfRange sel with
  | false =>
    rw [readRequest_of_valid hs] at h
    cases h
    rfl
  | true => simp [readRequest_of_bad hs] at h

/-- Settles O50, from the bytes of a built frame and of the read request. -/
theorem decodeFrameReadsBuiltFrames : Obligations.DecodeFrameReadsBuiltFrames := by
  refine ⟨fun sel index op data f h => ?_, fun sel f h => ?_⟩
  · obtain ⟨-, hi, hd, hbytes⟩ := buildFrame_ok_bytes h
    have hdata : data.isSome = true ↔ op.opcode = 0b00 := by rw [opcode_eq_write_iff, hd]
    rw [hbytes]
    exact ⟨_, resolveIndex_of_valid op hi, decodeFrame_command _ _ hdata, streamFrameLength_command _ _ hdata⟩
  · obtain rfl := readRequest_ok h
    exact ⟨decodeFrame_readRequest _, streamFrameLength_readRequest _⟩

/-! ### Transactions -/

/-- A read transaction exists when both of its frames do, and is made of them (R150). -/
theorem readTransaction_eq_ok_iff {writePhase : Except ErrorSet Frame} {sel : Int} {items : List BusItem} :
    readTransaction writePhase sel = .ok items ↔
      ∃ w r, writePhase = .ok w ∧ readRequest sel = .ok r ∧ items = [.frame w, .restart, .frame r] := by
  cases writePhase <;> cases h : readRequest sel <;>
    simp [readTransaction, h, bind, Except.bind, pure, Except.pure, eq_comm]

/-- A read transaction on valid operands (R150). -/
theorem readTransaction_of_valid {op : Operation} {sel i : Fin 4} {cmd : Byte} (hd : op.needsData = false)
    (hcmd : commandByte (operationAddress op (indexBits (i.val : Int))) op.opcode = cmd) :
    readTransaction (buildFrame (sel.val : Int) (some op) (i.val : Int) none) (sel.val : Int) =
      .ok [.frame (.command (addressWrite sel) cmd), .restart, .frame (.addressOnly (addressWrite sel ||| 0x01))] := by
  refine readTransaction_eq_ok_iff.2 ⟨_, _, ?_, ?_, rfl⟩
  · rw [buildFrame_without_data (indexOutOfRange_fin sel) (indexOutOfRange_fin i) hd, hcmd, addressWrite_eq]
  · rw [readRequest_of_valid (indexOutOfRange_fin sel), addressRead_eq]

/-- A read transaction on an operand out of range reports the errors of its write phase, made first (R150). -/
theorem readTransaction_of_bad {op : Operation} {sel i : Int} (hd : op.needsData = false) (h : bad sel ∨ bad i) :
    readTransaction (buildFrame sel (some op) i none) sel = .error ⟨true, false⟩ := by
  have hframe := buildFrame_of_bad (data := none) (dataWrong_iff_of_forbidden hd) (h.imp_right .inl)
  rw [hframe, decide_eq_true h]
  rfl

/-- Settles O53: the two transactions differ in the operation of the write phase. -/
theorem readTransactionIsWriteRestartRequest : Obligations.ReadTransactionIsWriteRestartRequest :=
  ⟨fun _ i => readTransaction_of_valid (op := .readWiper) rfl
      ((commandByte_of_wiper rfl i).trans (commandByte_read _)),
    fun _ i => readTransaction_of_valid (op := .readRegister) rfl
      ((commandByte_of_control rfl i).trans (commandByte_read _)),
    fun _ _ h => ⟨readTransaction_of_bad (op := .readWiper) rfl h, readTransaction_of_bad (op := .readRegister) rfl h⟩⟩

/-- A frame row observes the result of its `buildFrame` call. -/
theorem outcomeBy_frameInstr (op : Operation) (sel index : Int) (data : Option Byte) :
    outcomeBy (frameInstr op sel index data) = frameOutcome sel op index data := by
  cases op <;> rfl

/-- The program of a read transaction puts out its two frames; the restart between them is not the block's (R150). -/
theorem core_run_readTransaction {op : Operation} {sel index : Int} {items : List BusItem}
    (h : readTransaction (buildFrame sel (some op) index none) sel = .ok items) (s : State) :
    ∃ t, Sys2Proof.core.run 2
        ({ s with pending := [.call (frameInstr op sel index none), .call (.rdreq sel)] } : State) = .next t ∧
      framesOf (State.observed t) = framesOf s.observed ++ framesOfItems items := by
  obtain ⟨w, r, hw, hr, rfl⟩ := readTransaction_eq_ok_iff.1 h
  obtain ⟨t, hrun, -, hobs⟩ := core_run_calls [frameInstr op sel index none, .rdreq sel]
    { s with pending := [.call (frameInstr op sel index none), .call (.rdreq sel)] } rfl
  have hwrite : outcomeBy (frameInstr op sel index none) = .frame w := by
    rw [outcomeBy_frameInstr, frameOutcome, hw]
    rfl
  have hread : outcomeBy (.rdreq sel) = .frame r := by
    rw [outcomeBy, hr]
    rfl
  refine ⟨t, hrun, ?_⟩
  rw [hobs, framesOf_append, List.map_cons, List.map_cons, hwrite, hread]
  rfl

/-- Settles O54: a transaction is the program of its calls, and each call puts out the frame it is for. -/
theorem transactionCallsGiveItsFrames : Obligations.TransactionCallsGiveItsFrames := by
  refine ⟨fun s _ _ _ h => core_run_readTransaction (op := .readWiper) h s,
    fun s _ _ _ h => core_run_readTransaction (op := .readRegister) h s, fun s sel i op data items h => ?_⟩
  cases hf : buildFrame sel (some op) i data with
  | error e => simp [frameTxn, hf, Except.map] at h
  | ok f =>
    have hitems : items = [.frame f] := by simpa [frameTxn, hf, Except.map, eq_comm] using h
    have hout : outcomeBy (frameInstr op sel i data) = .frame f := by
      rw [outcomeBy_frameInstr, frameOutcome, hf]
      rfl
    obtain ⟨t, ht, hobs⟩ := exec_observes_of_outcome hout s
    subst hitems
    exact ⟨t, ht, by rw [hobs, framesOf_append]; rfl, rfl⟩

end Sys2Proof.TopLevel
end

section
/-! SUPPORT. Proofs of the family 60_exceptions: the code of an error set, and the single error a failed `buildFrame` call
is reported by. Both the cause and the result of a call are read off the error set that validation finds. -/

open Sys2Proof Sys2Proof.Machine Sys2Proof.Stmt Sys2Proof.Legality Sys2Proof.FrameBuilder

namespace Sys2Proof.Exceptions

/-! ### The code of an error set -/

theorem code_getLsbD_zero (e : ErrorSet) : e.code.getLsbD 0 = e.outOfRange := by
  rw [ErrorSet.code, BitVec.getLsbD_append]
  simp

theorem code_getLsbD_one (e : ErrorSet) : e.code.getLsbD 1 = e.invalidOperation := by
  rw [ErrorSet.code, BitVec.getLsbD_append]
  simp

/-- OutOfRange counts 1 in the code and InvalidOperation 2 (R163, D7). -/
theorem code_toNat (e : ErrorSet) :
    e.code.toNat = (if e.outOfRange then 1 else 0) + (if e.invalidOperation then 2 else 0) := by
  obtain ⟨o, i⟩ := e
  cases o <;> cases i <;> rfl

/-- Settles O35: the two bits of the code, and their weights. -/
theorem errorCodeVector : Obligations.ErrorCodeVector :=
  fun e => ⟨code_getLsbD_zero e, code_getLsbD_one e, code_toNat e⟩

/-! ### The result of a call, by the error set of its validation -/

section
variable {sel index : Int} {operation : Option Operation} {data : Option Byte}

/-- A call fails exactly with the errors that validation finds, at least one (R123). -/
theorem buildFrame_eq_error_iff {e : ErrorSet} :
    buildFrame sel operation index data = .error e ↔
      e = frameErrors sel operation index data ∧ e.isEmpty = false := by
  refine ⟨buildFrame_error_cases, ?_⟩
  rintro ⟨rfl, h⟩
  exact buildFrame_of_errors h

/-- A call gives a frame exactly when validation finds no error (R123). -/
theorem exists_buildFrame_eq_ok_iff :
    (∃ f, buildFrame sel operation index data = .ok f) ↔
      (frameErrors sel operation index data).isEmpty = true := by
  cases h : buildFrame sel operation index data with
  | error e =>
    obtain ⟨rfl, hne⟩ := buildFrame_error_cases h
    simp [hne]
  | ok f =>
    have hempty : (frameErrors sel operation index data).isEmpty = true := by
      by_contra hne
      rw [buildFrame_of_errors (Bool.eq_false_of_not_eq_true hne)] at h
      cases h
    simp [hempty]

/-! ### The projected cause (R166, D8) -/

/-- With a reserved operation code only the selector goes before InvalidOperation (R133, D25). -/
theorem frameErrorCause_reserved :
    frameErrorCause sel none index data = if bad sel then some .selectorOutOfRange else some .invalidOperation := by
  simp [frameErrorCause, indexOutOfRange_eq_decide_bad]

theorem frameErrorCause_named {op : Operation} :
    frameErrorCause sel (some op) index data =
      if bad sel then some .selectorOutOfRange
      else if bad index then some .indexOutOfRange
      else if op.needsData = data.isSome then none
      else some .invalidOperation := by
  simp [frameErrorCause, indexOutOfRange_eq_decide_bad]

theorem frameErrorCause_eq_selector_iff :
    frameErrorCause sel operation index data = some .selectorOutOfRange ↔ bad sel := by
  cases operation with
  | none => rw [frameErrorCause_reserved]; split_ifs <;> simp [*]
  | some op => rw [frameErrorCause_named]; split_ifs <;> simp [*]

theorem frameErrorCause_eq_index_iff :
    frameErrorCause sel operation index data = some .indexOutOfRange ↔ ¬ bad sel ∧ operation ≠ none ∧ bad index := by
  cases operation with
  | none => rw [frameErrorCause_reserved]; split_ifs <;> simp
  | some op => rw [frameErrorCause_named]; split_ifs <;> simp [*]

/-- InvalidOperation is named when it is the only error found. -/
theorem frameErrorCause_eq_invalidOperation_iff :
    frameErrorCause sel operation index data = some .invalidOperation ↔
      frameErrors sel operation index data = ⟨false, true⟩ := by
  cases operation with
  | none =>
    rw [frameErrorCause_reserved, frameErrors_none, indexOutOfRange_eq_decide_bad]
    split_ifs <;> simp [*]
  | some op =>
    rw [frameErrorCause_named, frameErrors_some, indexOutOfRange_eq_decide_bad, indexOutOfRange_eq_decide_bad]
    split_ifs <;> simp [*]

/-- No cause is named when no error is found. -/
theorem frameErrorCause_eq_none_iff :
    frameErrorCause sel operation index data = none ↔ (frameErrors sel operation index data).isEmpty = true := by
  cases operation with
  | none =>
    rw [frameErrorCause_reserved, frameErrors_none]
    split_ifs <;> simp [ErrorSet.isEmpty]
  | some op =>
    rw [frameErrorCause_named, frameErrors_isEmpty_iff, valid_iff_not_bad, valid_iff_not_bad]
    split_ifs <;> simp [*]

/-- InvalidOperation is the only error found when a call fails without OutOfRange. -/
theorem frameErrors_eq_invalidOperation_iff :
    frameErrors sel operation index data = ⟨false, true⟩ ↔
      ∃ e, buildFrame sel operation index data = .error e ∧ e.outOfRange = false := by
  simp only [buildFrame_eq_error_iff]
  constructor
  · intro h
    exact ⟨⟨false, true⟩, ⟨h.symm, rfl⟩, rfl⟩
  · rintro ⟨⟨o, i⟩, ⟨he, hne⟩, rfl⟩
    rw [← he, show i = true by simpa [ErrorSet.isEmpty] using hne]

end

/-- Settles O19: each cause by the errors found, and the errors found by the result of the call. -/
theorem singleErrorOrder : Obligations.SingleErrorOrder := fun _ _ _ _ =>
  ⟨frameErrorCause_eq_selector_iff, frameErrorCause_eq_index_iff,
    frameErrorCause_eq_invalidOperation_iff.trans frameErrors_eq_invalidOperation_iff,
    frameErrorCause_eq_none_iff.trans exists_buildFrame_eq_ok_iff.symm⟩

end Sys2Proof.Exceptions
end

section
/-! SUPPORT. Proofs of the family 70_reset_and_hazards: the pins a port call leaves, and the surroundings at reset. A port
call that names an operation is that operation's instruction, which drives the same pins with the operation's code; one
with a reserved code drives its pins without being an instruction. -/

open Sys2Proof Sys2Proof.Machine Sys2Proof.Encoding Sys2Proof.CommandAssembler Sys2Proof.FrameBuilder

namespace Sys2Proof.Reset

/-! ### The pins of a named operation -/

theorem drivenBy_addrByte_ofBit (sel : Int) (b : BitVec 1) (s : State) :
    drivenBy (.addrByte sel (.ofBit b)) s = s.driveAb ⟨sel, b⟩ := by
  simp [drivenBy]

/-- The command row of an operation drives its code (R74). -/
theorem drivenBy_commandInstr (op : Operation) (a : Nibble) (s : State) :
    drivenBy (commandInstr op a) s = s.driveEc ⟨op.code, a⟩ := by
  cases op <;> rfl

/-- The frame row of an operation drives its code (R74). -/
theorem drivenBy_frameInstr (op : Operation) (sel index : Int) (data : Option Byte) (s : State) :
    drivenBy (frameInstr op sel index data) s = s.driveBf ⟨sel, op.code, index, data⟩ := by
  cases op <;> rfl

/-! ### The step of a port call

The state after a port call, up to the outcome observed in it. -/

section
variable {s : State} {rest : List Request}

theorem step_drivenBy_of_fetch {r : Request} {i : Instr} (hp : s.pending = r :: rest) (hf : fetch r = .instr i) :
    step s = .next ((drivenBy i { s with pending := rest }).observe (outcomeBy i)) :=
  (step_of_fetch hp hf).trans (exec_eq i _)

theorem step_of_rw {p : WiperPins} (hp : s.pending = .rw p :: rest) :
    ∃ o, step s = .next ((State.driveRw { s with pending := rest } p).observe o) :=
  ⟨_, step_drivenBy_of_fetch hp rfl⟩

theorem step_of_rc {p : ControlPins} (hp : s.pending = .rc p :: rest) :
    ∃ o, step s = .next ((State.driveRc { s with pending := rest } p).observe o) :=
  ⟨_, step_drivenBy_of_fetch hp rfl⟩

theorem step_of_ab {p : AddressPins} (hp : s.pending = .ab p :: rest) :
    ∃ o, step s = .next ((State.driveAb { s with pending := rest } p).observe o) :=
  ⟨_, by rw [step_drivenBy_of_fetch hp rfl, drivenBy_addrByte_ofBit]⟩

/-- A command call drives the code presented, reserved or not (R74, R76). -/
theorem step_of_ec {p : CommandPins} (hp : s.pending = .ec p :: rest) :
    ∃ o, step s = .next ((State.driveEc { s with pending := rest } p).observe o) := by
  cases hop : operationOfCode p.operation with
  | none => exact ⟨_, step_of_reservedCommand hop hp⟩
  | some op =>
    exact ⟨_, by rw [step_drivenBy_of_fetch hp (fetch_ec hop), drivenBy_commandInstr, code_of_operationOfCode hop]⟩

/-- A frame call drives the code presented, reserved or not (R74, R76). -/
theorem step_of_bf {p : FramePins} (hp : s.pending = .bf p :: rest) :
    ∃ o, step s = .next ((State.driveBf { s with pending := rest } p).observe o) := by
  cases hop : operationOfCode p.operation with
  | none => exact ⟨_, step_of_reservedFrame hop hp⟩
  | some op =>
    exact ⟨_, by rw [step_drivenBy_of_fetch hp (fetch_bf hop), drivenBy_frameInstr, code_of_operationOfCode hop]⟩

end

/-- Settles O34, from the step of each port group's call. -/
theorem callDrivesItsPins : Obligations.CallDrivesItsPins := by
  refine ⟨fun s p rest hp => ?rw, fun s p rest hp => ?rc, fun s p rest hp => ?ab, fun s p rest hp => ?ec,
    fun s p rest hp => ?bf⟩
  case rw => obtain ⟨o, h⟩ := step_of_rw hp; exact ⟨_, h, rfl, rfl⟩
  case rc => obtain ⟨o, h⟩ := step_of_rc hp; exact ⟨_, h, rfl, rfl⟩
  case ab => obtain ⟨o, h⟩ := step_of_ab hp; exact ⟨_, h, rfl, rfl⟩
  case ec => obtain ⟨o, h⟩ := step_of_ec hp; exact ⟨_, h, rfl, rfl⟩
  case bf => obtain ⟨o, h⟩ := step_of_bf hp; exact ⟨_, h, rfl, rfl⟩

/-! ### Reset -/

/-- Where no input is driven no output is known (R181). -/
theorem undriven_out : PortPins.undriven.out = ⟨none, none, none, none, none⟩ := rfl

/-- Settles O41, from the three fields of the reset state. -/
theorem resetIsUndrivenAndUnobserved : Obligations.ResetIsUndrivenAndUnobserved :=
  ⟨reset_ports, undriven_out, reset_pending, reset_observed⟩

end Sys2Proof.Reset
end

section
/-! SUPPORT. Proofs of the family other: words of spec/opcode_table.json written out bit by bit. The decoder undoes the
encoder, so of a word only its encoding and its row are to be compared. -/

namespace Sys2Proof.TableWords

/-- A word that is the encoding of an instruction, written as its canonical row, decodes to that instruction (R73). -/
theorem decodeTableWord_of_encode {nbits w : Nat} {i : Instr} (he : encode i = some (emissionOfTableWord nbits w))
    (hrow : i.canonical = i) : decodeTableWord nbits w = some i := by
  obtain ⟨hdec, -⟩ := Encoding.decodeReadsBackEveryEncoding i _ he
  exact Encoding.decodeTableWord_eq_some_iff.2 (hdec.trans (congrArg Except.ok hrow))

/-- Settles O52: each word is the encoding of the instruction named, and each instruction its own canonical row. -/
theorem tableWordsDecode : Obligations.TableWordsDecode := by
  refine ⟨?addrByte, ?rdreq, ?cmdInc, ?cmdRd, ?incW2, ?decW0, ?wrwW3, ?wrrT23, ?rdwW1, ?rdrT01, ?resolveWiper⟩
  all_goals exact decodeTableWord_of_encode (by decide) rfl

end Sys2Proof.TableWords
end
